-- ==== Sys2Proof/Word.lean ====
section
/-! DEFINITION. Word.lean: the widths of the core's values (00_scope.md R10, R18; 10_state.md). Bit 0 is the least
significant bit of every value; every value is unsigned. -/

namespace Sys2Proof

/-- A 32-bit bus word or register of the window (20_memory.md R84). -/
abbrev Word := BitVec 32

/-- A byte lane, a Mini block, a Mini round key (20_memory.md R85; 41_cipher.md R180). -/
abbrev Byte := BitVec 8

/-- A nibble of the substitution layer (41_cipher.md R170). -/
abbrev Nibble := BitVec 4

/-- A PRESENT block or round key (41_cipher.md R183). -/
abbrev Block := BitVec 64

/-- A 16-bit value of the MAC: an IV, a message chunk, the keystream (10_state.md R46, R47, R57). -/
abbrev Half := BitVec 16

/-- A value of GF_M_MAX = 16 bits: GF_R, MAC_TAG, MAC_HASH and the multiplier's ports (00_scope.md R8). -/
abbrev GfWord := BitVec 16

/-- The 128-bit key operand KEY = KEY3, KEY2, KEY1, KEY0 (10_state.md R40). -/
abbrev KeyWord := BitVec 128

/-- A byte offset of the 256-byte register window (20_memory.md R80). -/
abbrev Offset := BitVec 8

/-- The four byte strobes of a bus write, strobe j for byte lane j (20_memory.md R84, R85). -/
abbrev Strobes := BitVec 4

end Sys2Proof
end

