-- ==== Sys2Proof/Config.lean ====
section
/-! DEFINITION. Config.lean: the implementation parameters of 00_scope.md R8. The four whose value this spec's hardware
fixes are numerals. The OPEN ones are the fields of Config, each of a type all of whose values are legal, and the machine
runs under Config.machine, a constant with no body: a claim about the machine holds for every legal value (log 9). -/

namespace Sys2Proof

/-- GF_M_MAX: the largest field degree and the width of the multiplier's ports; 16 in this spec's hardware (R8, D18). -/
abbrev Config.gfMMax : Nat := 16

/-- ROUNDS_MAX: the depth of KS_C and the largest round count; 32 in this spec's hardware (R8, D24). -/
abbrev Config.roundsMax : Nat := 32

/-- PRESENT_DEFAULT_ROUNDS: what KEY_LOAD_PRESENT uses when RND = 0 (R8, D25). -/
abbrev Config.presentDefaultRounds : Nat := 32

/-- MINI_DEFAULT_ROUNDS: what KEY_LOAD_MINI uses when RND = 0, and the MAC's Mini cipher (R8, D26, D43). -/
abbrev Config.miniDefaultRounds : Nat := 4

/-- The version number the INFO register shows (R2, R52). -/
abbrev Config.version : Nat := 1

/-- MULT_IMPL: the multiplier's microarchitecture (R8; 40_gf_multiplier.md R133 to R135). -/
inductive MultImpl where
  | comb
  | pipe
  | iter
  deriving DecidableEq, Repr, Inhabited

/-- GCTR_BYTE_LOOP: whether GCTR encrypts the IV's bytes while the remaining value is non-zero, or always both (R8, R232). -/
inductive GctrByteLoop where
  | byValue
  | fixedWidth
  deriving DecidableEq, Repr, Inhabited

/-- MINI_KS_SBOX_NIBBLES: how many top nibbles the Mini key schedule substitutes (R8; 41_cipher.md R180). -/
inductive MiniKsNibbles where
  | one
  | two
  deriving DecidableEq, Repr, Inhabited

/-- The status a host transaction gets from the bus (20_memory.md R83, R84). -/
inductive BusStatus where
  | okay
  | error
  deriving DecidableEq, Repr, Inhabited

/-- The OPEN parameters of 00_scope.md R8 but for LAT_*, which is the environment's choice of when a completion falls. -/
structure Config where
  /-- CORE_BASE divided by 256: the base address is 256-byte aligned (R8, 20_memory.md R80). -/
  corePage : Nat
  /-- MULT_IMPL. -/
  multImpl : MultImpl
  /-- GF_PIPE_STAGES less 1: the pipeline depth is 1 or more. -/
  pipeExtra : Nat
  /-- MINI_PBOX: any permutation of 0..7; bit i moves to bit miniPBox i (41_cipher.md R175). -/
  miniPBox : Equiv.Perm (Fin 8)
  /-- MINI_KS_SBOX_NIBBLES. -/
  ksNibbles : MiniKsNibbles
  /-- MINI_SALT_SHIFT: 0 to 15. -/
  saltShift : Fin 16
  /-- GCTR_BYTE_LOOP. -/
  gctrLoop : GctrByteLoop
  deriving Inhabited

/-- CORE_BASE: any 256-byte-aligned address (R8). -/
def Config.coreBase (cfg : Config) : Nat := 256 * cfg.corePage

/-- GF_PIPE_STAGES: 1 or more (R8). -/
def Config.gfPipeStages (cfg : Config) : Nat := cfg.pipeExtra + 1

/-- MINI_KS_SBOX_NIBBLES as a number, 1 or 2 (R8). -/
def MiniKsNibbles.count : MiniKsNibbles → Nat
  | .one => 1
  | .two => 2

/-- The default MINI_PBOX [0, 2, 4, 6, 1, 3, 5, 7] with its inverse [0, 4, 1, 5, 2, 6, 3, 7] (41_cipher.md R175). -/
def Config.defaultMiniPBox : Equiv.Perm (Fin 8) where
  toFun i := #v[0, 2, 4, 6, 1, 3, 5, 7][i]
  invFun i := #v[0, 4, 1, 5, 2, 6, 3, 7][i]
  left_inv := by intro i; revert i; decide
  right_inv := by intro i; revert i; decide

/-- The reference configuration of 00_scope.md R9. CORE_BASE and GF_PIPE_STAGES have no reference value there: 0 and 1 here
are fillers that no vector of 95_test_vectors.md reads. It serves worked examples only; the machine runs under Config.machine. -/
def Config.reference : Config where
  corePage := 0
  multImpl := .comb
  pipeExtra := 0
  miniPBox := Config.defaultMiniPBox
  ksNibbles := .one
  saltShift := 7
  gctrLoop := .byValue

/-- The configuration of the machine: no body, so nothing can be proved of its fields beyond their being legal (R8, log 9). -/
opaque Config.machine : Config

/-- The bus status of the n-th write lost under reset, which the spec does not state (70_reset_and_hazards.md R322, log 8). -/
opaque Config.lostWriteStatus : Nat → BusStatus

end Sys2Proof
end

