-- ==== Sys2Proof/Machine/State.lean ====
section
/-! DEFINITION. Machine/State.lean: everything the spec gives the machine (10_state.md), as plain data, and its value after
reset (70_reset_and_hazards.md R320). Every register has one home: STATUS.BUSY is seq, STATUS.KEY_VALID, KVAR and MAC_KEYED are
computed from ksCR, ksCVar and ksMacR, and KS_ROUNDS is computed too (Machine/Flags.lean). The multi-word values KEY, DIN and
DOUT are the registers that hold them (Machine/Operands.lean). -/

namespace Sys2Proof.Machine

/-- SEQ: whether a command is in flight (10_state.md R32). -/
inductive Seq where
  | idle
  | busy
  deriving DecidableEq, Repr, Inhabited

/-- KS_C_VAR: the variant of the schedule in KS_C (10_state.md R55). -/
inductive Variant where
  /-- 0: none. -/
  | noKey
  /-- 1: MINI. -/
  | mini
  /-- 2: P80. -/
  | p80
  /-- 3: P128. -/
  | p128
  deriving DecidableEq, Repr, Inhabited

/-- The error codes of 60_exceptions.md R280; codes 9 to 15 do not exist. -/
inductive ErrCode where
  | ok
  | invalidKeyLength
  | fieldNotConfigured
  /-- Reserved for host software; the core never produces it (R284). -/
  | malformedBlockInput
  | illegalCommand
  | invalidRounds
  | invalidFieldParams
  | keyNotLoaded
  | macNotReady
  deriving DecidableEq, Repr, Inhabited

/-- CUR: the accepted command word and the snapshot of the operand registers taken at accept (10_state.md R32, 20_memory.md R92). -/
structure Accepted where
  word : Word
  key : KeyWord
  din : Block
  gfA : Word
  gfB : Word
  macIv : Half
  macDin : Half
  deriving DecidableEq, Repr, Inhabited

/-- The unit FSM state of the command in flight (10_state.md R32), in the reference datapath (41_cipher.md R182, R184, R186;
40_gf_multiplier.md R133 to R135). -/
inductive Fsm where
  /-- Accepted, no cycle run yet. -/
  | ready
  /-- The key schedule's rounds, RC = 1..R (R182). -/
  | keyRounds
  /-- Init of R184 and R186. -/
  | blockInit
  /-- Round(RC) of R184 and R186. -/
  | blockRound
  /-- Final of R184 and R186. -/
  | blockFinal
  /-- The multiplier at work (R134, R135). -/
  | multiply
  /-- The result is ready; the completion step may follow (20_memory.md R93). -/
  | done
  deriving DecidableEq, Repr, Inhabited

/-- The working datapath state of 10_state.md R59, never observable. The shadow key-schedule file is one of the two stagings that
41_cipher.md R182 allows, the model's choice between them (DESIGN CHOICE, log 14); staged is the model's own name for the result wires the completion step takes (log 14). -/
structure Working where
  fsm : Fsm
  st : Block
  kreg : KeyWord
  rc : Byte
  gp1 : BitVec 17
  gp2 : GfWord
  gacc : GfWord
  pipe : List GfWord
  gctrIdx : Nat
  shadow : List Block
  staged : Block
  deriving DecidableEq, Repr, Inhabited

/-- How many bytes a host read asks for; only a full word is supported (20_memory.md R84). -/
inductive AccessSize where
  | byte
  | half
  | word
  deriving DecidableEq, Repr, Inhabited

/-- What the environment may do next (70_reset_and_hazards.md R340), and one clock cycle of the reference datapath (R345). -/
inductive EnvStep where
  /-- A host read of the window (R340 step 1). -/
  | read (off : Offset) (size : AccessSize)
  /-- A host write of the window with its byte strobes (R340 step 2). -/
  | write (off : Offset) (strobes : Strobes) (v : Word)
  /-- The completion of the command in flight (R340 step 3). -/
  | complete
  /-- One clock cycle of the reference datapath (log 14). -/
  | clock
  /-- The reset input is asserted (R340 step 4, R320). -/
  | resetAssert
  /-- The reset input is released (R320). -/
  | resetRelease
  deriving DecidableEq, Repr, Inhabited

/-- What the bus answers to a host transaction (20_memory.md R83, R84, R89). -/
inductive BusResponse where
  | read (status : BusStatus) (data : Word)
  | write (status : BusStatus)
  deriving DecidableEq, Repr, Inhabited

/-- The reasons to stop with a fault: there are none. An error of the core is a code in STATUS and the machine goes on
(60_exceptions.md R281, R286), a bus error is a response (R290), and the core never hangs (93_implementation_defined.md). Nobody
raises a fault; that is safe and is what the spec says (log 20). -/
inductive Fault where
  deriving DecidableEq, Repr

/-- The reasons to refuse. -/
inductive Refusal where
  /-- Raised by exec's arm of a command that has no meaning yet; safe. No arm of this model raises it. -/
  | notModelled (mnemonic : String)
  deriving DecidableEq, Repr

end Sys2Proof.Machine

namespace Sys2Proof.Machine

/-- The state of the core, its reset input and its bus. -/
structure State where
  /-- KEY0 (R40). -/
  key0 : Word
  /-- KEY1 (R40). -/
  key1 : Word
  /-- KEY2 (R40). -/
  key2 : Word
  /-- KEY3 (R40). -/
  key3 : Word
  /-- DIN0 (R41). -/
  din0 : Word
  /-- DIN1 (R41). -/
  din1 : Word
  /-- DOUT0 (R42). -/
  dout0 : Word
  /-- DOUT1 (R42). -/
  dout1 : Word
  /-- GF_A (R43). -/
  gfA : Word
  /-- GF_B (R43). -/
  gfB : Word
  /-- GF_R, GF_M_MAX bits (R44). -/
  gfR : GfWord
  /-- FIELD_DEG, the 8 implemented bits (R45). -/
  fieldDeg : Byte
  /-- FIELD_POLY (R45). -/
  fieldPoly : Word
  /-- MAC_IV, the 16 implemented bits (R46). -/
  macIv : Half
  /-- MAC_DIN, the 16 implemented bits (R47). -/
  macDin : Half
  /-- MAC_TAG, GF_M_MAX bits (R48). -/
  macTag : GfWord
  /-- MAC_HASH, GF_M_MAX bits (R49). -/
  macHash : GfWord
  /-- STATUS.ERR (R35). -/
  err : Bool
  /-- STATUS.OVR (R36). -/
  ovr : Bool
  /-- STATUS.FIELD_VALID (R37). -/
  fieldValid : Bool
  /-- STATUS.MAC_OPEN (R39, R57). -/
  macOpen : Bool
  /-- STATUS.ERRCODE (R35). -/
  errCode : ErrCode
  /-- SEQ, shown as STATUS.BUSY (R32, R34). -/
  seq : Seq
  /-- CUR (R32). -/
  cur : Accepted
  /-- KS_C[1..ROUNDS_MAX]; entry i of the spec is at index i - 1 (R55). -/
  ksC : Vector Block 32
  /-- KS_C_R, the number of valid entries (R55). -/
  ksCR : Byte
  /-- KS_C_VAR (R55). -/
  ksCVar : Variant
  /-- KS_MAC[1..MINI_DEFAULT_ROUNDS]; entry i of the spec is at index i - 1 (R56). -/
  ksMac : Vector Byte 4
  /-- KS_MAC_R (R56). -/
  ksMacR : Byte
  /-- MAC_H (R56). -/
  macH : Byte
  /-- MAC_GCTR (R57). -/
  macGctr : Half
  /-- The working datapath state and the unit FSM (R59, R32). -/
  work : Working
  /-- The level of the reset input, true while asserted (70_reset_and_hazards.md R320, R322). -/
  rst : Bool
  /-- The model's own: what the environment will do, oldest first (R340, log 5). -/
  env : List EnvStep
  /-- The model's own: the response to the last host transaction, none before the first (log 6). -/
  busResp : Option BusResponse
  /-- The model's own: how many writes were lost under reset; it numbers their free bus statuses (log 8). -/
  lostWrites : Nat
  deriving DecidableEq, Repr

/-- CUR after reset: unspecified and unobservable in the spec (R32); DESIGN CHOICE 0 (log 3). -/
def Accepted.reset : Accepted where
  word := 0
  key := 0
  din := 0
  gfA := 0
  gfB := 0
  macIv := 0
  macDin := 0

/-- The working state after reset: unspecified and unobservable in the spec (R59); DESIGN CHOICE 0 (log 4). -/
def Working.reset : Working where
  fsm := .ready
  st := 0
  kreg := 0
  rc := 0
  gp1 := 0
  gp2 := 0
  gacc := 0
  pipe := []
  gctrIdx := 0
  shadow := []
  staged := 0

/-- The machine right after reset (70_reset_and_hazards.md R320; 10_state.md R32 to R59). The entries of KS_C and KS_MAC, MAC_H and
MAC_GCTR are unspecified and unobservable in the spec; DESIGN CHOICE 0 (log 1, log 2). -/
def State.reset : State where
  key0 := 0
  key1 := 0
  key2 := 0
  key3 := 0
  din0 := 0
  din1 := 0
  dout0 := 0
  dout1 := 0
  gfA := 0
  gfB := 0
  gfR := 0
  fieldDeg := 0
  fieldPoly := 0
  macIv := 0
  macDin := 0
  macTag := 0
  macHash := 0
  err := false
  ovr := false
  fieldValid := false
  macOpen := false
  errCode := .ok
  seq := .idle
  cur := Accepted.reset
  ksC := Vector.replicate 32 0
  ksCR := 0
  ksCVar := .noKey
  ksMac := Vector.replicate 4 0
  ksMacR := 0
  macH := 0
  macGctr := 0
  work := Working.reset
  rst := false
  env := []
  busResp := none
  lostWrites := 0

/-- What a step or a meaning answers. -/
abbrev Result := Host.Outcome State Fault Refusal

end Sys2Proof.Machine
end

