-- ==== Sys2Proof/Machine/Flags.lean ====
section
/-! DEFINITION. Machine/Flags.lean: the STATUS register and the other computed registers, from their one home in State
(10_state.md R33 to R39, R50, R52 to R54). -/

namespace Sys2Proof.Machine

/-- The number of an error code (60_exceptions.md R280). -/
def errNumber : ErrCode → Nat
  | .ok => 0
  | .invalidKeyLength => 1
  | .fieldNotConfigured => 2
  | .malformedBlockInput => 3
  | .illegalCommand => 4
  | .invalidRounds => 5
  | .invalidFieldParams => 6
  | .keyNotLoaded => 7
  | .macNotReady => 8

/-- The number of a variant in STATUS.KVAR (10_state.md R33, R55). -/
def variantNumber : Variant → Nat
  | .noKey => 0
  | .mini => 1
  | .p80 => 2
  | .p128 => 3

/-- STATUS.KEY_VALID reads (KS_C_R != 0) (10_state.md R38). -/
def keyValid (s : State) : Bool := s.ksCR ≠ 0

/-- STATUS.MAC_KEYED reads (KS_MAC_R != 0) (10_state.md R39). -/
def macKeyed (s : State) : Bool := s.ksMacR ≠ 0

/-- STATUS.BUSY: a command is in flight (10_state.md R34). -/
def busyFlag (s : State) : Bool := s.seq = .busy

/-- A one-bit field of a register at bit position k. -/
def bitAt (b : Bool) (k : Nat) : Word := if b then BitVec.ofNat 32 (2 ^ k) else 0#32

/-- A field of a register whose low bit is at bit position k. -/
def fieldAt (v k : Nat) : Word := BitVec.ofNat 32 v <<< k

/-- The STATUS register (10_state.md R33). Bits 7 and 31:14 read 0. -/
def statusWord (s : State) : Word :=
  bitAt (busyFlag s) 0 ||| bitAt s.err 1 ||| bitAt s.ovr 2 ||| bitAt s.fieldValid 3 ||| bitAt (keyValid s) 4 |||
    bitAt (macKeyed s) 5 ||| bitAt s.macOpen 6 ||| fieldAt (errNumber s.errCode) 8 |||
    fieldAt (variantNumber s.ksCVar) 12

/-- The KS_ROUNDS register (10_state.md R50). -/
def ksRoundsWord (s : State) : Word := fieldAt s.ksCR.toNat 0 ||| fieldAt s.ksMacR.toNat 8

/-- INFO[17:16], IMPL (10_state.md R52). -/
def implNumber : MultImpl → Nat
  | .comb => 0
  | .pipe => 1
  | .iter => 2

/-- INFO[18], GCTRM (10_state.md R52). -/
def gctrNumber : GctrByteLoop → Nat
  | .byValue => 0
  | .fixedWidth => 1

/-- The INFO register (10_state.md R52). -/
def infoWord (cfg : Config) : Word :=
  fieldAt Config.gfMMax 0 ||| fieldAt Config.roundsMax 8 ||| fieldAt (implNumber cfg.multImpl) 16 |||
    fieldAt (gctrNumber cfg.gctrLoop) 18 ||| fieldAt (cfg.ksNibbles.count - 1) 19 ||| fieldAt Config.version 24

/-- INFO1[31:24]: GF_PIPE_STAGES when MULT_IMPL = PIPE, saturated at 255, and 0 otherwise (10_state.md R53). -/
def pipeField (cfg : Config) : Nat :=
  match cfg.multImpl with
  | .pipe => min cfg.gfPipeStages 255
  | .comb => 0
  | .iter => 0

/-- The INFO1 register (10_state.md R53). -/
def infoOneWord (cfg : Config) : Word :=
  fieldAt Config.presentDefaultRounds 0 ||| fieldAt Config.miniDefaultRounds 8 ||| fieldAt cfg.saltShift.val 16 |||
    fieldAt (pipeField cfg) 24

/-- The INFO2 register: bits [3i+2:3i] hold MINI_PBOX[i] (10_state.md R54). -/
def infoTwoWord (cfg : Config) : Word :=
  (List.finRange 8).foldl (fun acc i => acc ||| fieldAt (cfg.miniPBox i).val (3 * i.val)) 0#32

end Sys2Proof.Machine
end

