-- ==== Sys2Proof/Machine/Ops.lean ====
section
/-! DEFINITION. Machine/Ops.lean: the operations every command shares: complete() and raise E() (00_scope.md R12), the accept of
a CMD write with its snapshot (20_memory.md R91, R92), and the writes of the key-schedule files (41_cipher.md R181). The core has
no trap entry and no return beyond these (60_exceptions.md R286, R287). -/

namespace Sys2Proof.Machine

/-- The state complete() leaves: STATUS.ERR <- 0, STATUS.ERRCODE <- 0 (00_scope.md R12, 10_state.md R35), SEQ <- IDLE (20_memory.md R93). -/
def completed (s : State) : State := { s with err := false, errCode := .ok, seq := .idle }

/-- The state raise E() leaves: STATUS.ERR <- 1, STATUS.ERRCODE <- code(E), SEQ <- IDLE, no other change (60_exceptions.md R281). -/
def failed (e : ErrCode) (s : State) : State := { s with err := true, errCode := e, seq := .idle }

/-- complete(): the command ends normally at its completion step (00_scope.md R12). -/
def complete (s : State) : Result := .next (completed s)

/-- raise E(): the command in flight ends with error e (00_scope.md R12, 60_exceptions.md R281). -/
def raise (e : ErrCode) (s : State) : Result := .next (failed e s)

/-- KEY = KEY3, KEY2, KEY1, KEY0 (10_state.md R40, 20_memory.md R85). -/
def keyOf (s : State) : KeyWord := s.key3 ++ s.key2 ++ s.key1 ++ s.key0

/-- DIN = DIN1, DIN0 (10_state.md R41). -/
def dinOf (s : State) : Block := s.din1 ++ s.din0

/-- DOUT = DOUT1, DOUT0 (10_state.md R42). -/
def doutOf (s : State) : Block := s.dout1 ++ s.dout0

/-- DOUT <- v (10_state.md R42). -/
def writeDout (v : Block) (s : State) : State :=
  { s with dout1 := v.extractLsb' 32 32, dout0 := v.extractLsb' 0 32 }

/-- snapshot(), with the word of the command: what CUR takes at accept (20_memory.md R92). -/
def snapshot (w : Word) (s : State) : Accepted where
  word := w
  key := keyOf s
  din := dinOf s
  gfA := s.gfA
  gfB := s.gfB
  macIv := s.macIv
  macDin := s.macDin

/-- The unit FSM stands at its first state when a command is accepted; the working registers keep what they hold, and every
rule that uses one writes it first (10_state.md R59). -/
def startUnits (w : Working) : Working := { w with fsm := .ready }

/-- The accept of a command word (20_memory.md R91): CUR <- (w, snapshot()), SEQ <- BUSY. -/
def accept (w : Word) (s : State) : State :=
  { s with cur := snapshot w s, seq := .busy, work := startUnits s.work }

/-- A register file with its first entries replaced by a list; the entries past the list keep their stale values (10_state.md R55). -/
def fileWrite {w n : Nat} (file : Vector (BitVec w) n) (ks : List (BitVec w)) : Vector (BitVec w) n :=
  ⟨(ks.take n ++ file.toList.drop (ks.take n).length).toArray, by simp⟩

/-- KS_C[1..R] <- ks, KS_C_R <- R, KS_C_VAR <- v, together (41_cipher.md R181). -/
def installSchedule (v : Variant) (ks : List Block) (s : State) : State :=
  { s with ksC := fileWrite s.ksC ks, ksCR := BitVec.ofNat 8 ks.length, ksCVar := v }

/-- KS_C[1..KS_C_R], the valid entries (10_state.md R55). -/
def validSchedule (s : State) : List Block := s.ksC.toList.take s.ksCR.toNat

/-- KS_MAC[1..MINI_DEFAULT_ROUNDS] (10_state.md R56). -/
def macSchedule (s : State) : List Byte := s.ksMac.toList

end Sys2Proof.Machine
end

