-- ==== Sys2Proof/Machine/Bus.lean ====
section
/-! DEFINITION. Machine/Bus.lean: the register window (20_memory.md): the map of R82, what a read returns, what a write does, and
the host's reads and writes with their bus responses (R83, R84, R89 to R92). There is no memory beside the window (R80, R81), so
the bytes of the address space are the byte lanes of its registers (log 11). -/

namespace Sys2Proof.Machine

/-- The registers of the window (R82). -/
inductive Reg where
  | cmd
  | status
  | key0
  | key1
  | key2
  | key3
  | din0
  | din1
  | dout0
  | dout1
  | gfA
  | gfB
  | gfR
  | fieldDeg
  | fieldPoly
  | macIv
  | macDin
  | macTag
  | macHash
  | ksRounds
  | info
  | info1
  | info2
  deriving DecidableEq, Repr

/-- The register map (R82); the offsets it does not list, 0x5C to 0xFC, are reserved (R83). -/
def windowMap : List (Offset × Reg) :=
  [(0x00#8, .cmd), (0x04#8, .status), (0x08#8, .key0), (0x0C#8, .key1), (0x10#8, .key2),
    (0x14#8, .key3), (0x18#8, .din0), (0x1C#8, .din1), (0x20#8, .dout0), (0x24#8, .dout1),
    (0x28#8, .gfA), (0x2C#8, .gfB), (0x30#8, .gfR), (0x34#8, .fieldDeg), (0x38#8, .fieldPoly),
    (0x3C#8, .macIv), (0x40#8, .macDin), (0x44#8, .macTag), (0x48#8, .macHash), (0x4C#8, .ksRounds),
    (0x50#8, .info), (0x54#8, .info1), (0x58#8, .info2)]

/-- The register at an aligned offset, none where the offset is reserved (R82, R83). -/
def regAt (off : Offset) : Option Reg := (windowMap.find? (fun e => e.1 == off)).map (·.2)

/-- The offset of a register (R82). -/
def regOffset : Reg → Offset
  | .cmd => 0x00
  | .status => 0x04
  | .key0 => 0x08
  | .key1 => 0x0C
  | .key2 => 0x10
  | .key3 => 0x14
  | .din0 => 0x18
  | .din1 => 0x1C
  | .dout0 => 0x20
  | .dout1 => 0x24
  | .gfA => 0x28
  | .gfB => 0x2C
  | .gfR => 0x30
  | .fieldDeg => 0x34
  | .fieldPoly => 0x38
  | .macIv => 0x3C
  | .macDin => 0x40
  | .macTag => 0x44
  | .macHash => 0x48
  | .ksRounds => 0x4C
  | .info => 0x50
  | .info1 => 0x54
  | .info2 => 0x58

/-- The value a register shows; unimplemented bits read 0 (10_state.md R31 to R54). -/
def readReg (cfg : Config) (s : State) : Reg → Word
  | .cmd => 0#32
  | .status => statusWord s
  | .key0 => s.key0
  | .key1 => s.key1
  | .key2 => s.key2
  | .key3 => s.key3
  | .din0 => s.din0
  | .din1 => s.din1
  | .dout0 => s.dout0
  | .dout1 => s.dout1
  | .gfA => s.gfA
  | .gfB => s.gfB
  | .gfR => s.gfR.setWidth 32
  | .fieldDeg => s.fieldDeg.setWidth 32
  | .fieldPoly => s.fieldPoly
  | .macIv => s.macIv.setWidth 32
  | .macDin => s.macDin.setWidth 32
  | .macTag => s.macTag.setWidth 32
  | .macHash => s.macHash.setWidth 32
  | .ksRounds => ksRoundsWord s
  | .info => infoWord cfg
  | .info1 => infoOneWord cfg
  | .info2 => infoTwoWord cfg

/-- The word at an offset of the window; a reserved offset reads 0 (R83). -/
def windowWord (cfg : Config) (s : State) (off : Offset) : Word :=
  match regAt off with
  | some r => readReg cfg s r
  | none => 0#32

/-- The byte of the window at a byte offset: byte lane off[1:0] of the word that holds it (R85). -/
def windowByte (cfg : Config) (s : State) (off : Offset) : Byte :=
  (windowWord cfg s (off &&& 0xFC#8)).extractLsb' (8 * (off &&& 0x03#8).toNat) 8

/-- A write to CMD: accepted when SEQ = IDLE, dropped with OVR when a command is in flight (R91). -/
def writeCmd (v : Word) (s : State) : State :=
  match s.seq with
  | .idle => accept v s
  | .busy => { s with ovr := true }

/-- A write to STATUS: bit 2 is write-1-to-clear for OVR, every other bit is ignored (10_state.md R33, R36). -/
def writeStatus (v : Word) (s : State) : State := if v.getLsbD 2 then { s with ovr := false } else s

/-- A write to a register of the window: RW registers store their implemented bits, RO registers ignore it (R82, R89, R90). -/
def writeReg (r : Reg) (v : Word) (s : State) : State :=
  match r with
  | .cmd => writeCmd v s
  | .status => writeStatus v s
  | .key0 => { s with key0 := v }
  | .key1 => { s with key1 := v }
  | .key2 => { s with key2 := v }
  | .key3 => { s with key3 := v }
  | .din0 => { s with din0 := v }
  | .din1 => { s with din1 := v }
  | .dout0 => s
  | .dout1 => s
  | .gfA => { s with gfA := v }
  | .gfB => { s with gfB := v }
  | .gfR => s
  | .fieldDeg => s
  | .fieldPoly => s
  | .macIv => { s with macIv := v.setWidth 16 }
  | .macDin => { s with macDin := v.setWidth 16 }
  | .macTag => s
  | .macHash => s
  | .ksRounds => s
  | .info => s
  | .info1 => s
  | .info2 => s

/-- A write at an offset of the window; a reserved offset ignores it (R83). -/
def windowWrite (off : Offset) (v : Word) (s : State) : State :=
  match regAt off with
  | some r => writeReg r v s
  | none => s

/-- off[1:0] = 0 (R84). -/
def aligned (off : Offset) : Bool := off &&& 0x03#8 == 0#8

/-- A supported read: aligned and a full word (R84, log 13). -/
def readSupported (off : Offset) (size : AccessSize) : Bool := aligned off && size == .word

/-- A supported write: aligned, all four byte strobes active (R84). -/
def writeSupported (off : Offset) (strobes : Strobes) : Bool := aligned off && strobes == 0xF#4

/-- The bus answers a transaction; the core's own state is untouched (R88). -/
def respond (r : BusResponse) (s : State) : State := { s with busResp := some r }

/-- What the bus answers to a read: the register's value, or ERROR and 0 where the access is not supported (R84, R89). -/
def readResponse (cfg : Config) (off : Offset) (size : AccessSize) (s : State) : BusResponse :=
  if readSupported off size then .read .okay (windowWord cfg s off) else .read .error 0#32

/-- A host read of the window (R89, R340 step 1). -/
def hostRead (cfg : Config) (off : Offset) (size : AccessSize) (s : State) : State :=
  respond (readResponse cfg off size s) s

/-- A host write of the window; a refused write has no effect on the core (R84, R340 step 2). -/
def hostWrite (off : Offset) (strobes : Strobes) (v : Word) (s : State) : State :=
  if writeSupported off strobes then respond (.write .okay) (windowWrite off v s)
  else respond (.write .error) s

/-- A read while reset is asserted is lost: it returns 0 with an OKAY response (70_reset_and_hazards.md R322), one that R84 would refuse
with ERROR among them (DESIGN CHOICE, log 24). -/
def lostRead (s : State) : State := respond (.read .okay 0#32) s

/-- A write while reset is asserted is lost: it has no effect. Its bus status is not stated, a free value (R322, log 8), for a write that
R84 would refuse with ERROR too (DESIGN CHOICE, log 24). -/
def lostWrite (s : State) : State :=
  respond (.write (Config.lostWriteStatus s.lostWrites)) { s with lostWrites := s.lostWrites + 1 }

/-- The offset a bus address selects: off = addr - CORE_BASE inside the window; an address outside it is not the core's
(R80, R100, log 12). -/
def windowOffset (cfg : Config) (addr : Nat) : Option Offset :=
  if cfg.coreBase ≤ addr ∧ addr < cfg.coreBase + 256 then some (BitVec.ofNat 8 (addr - cfg.coreBase)) else none

end Sys2Proof.Machine
end

