-- ==== Sys2Proof/Syntax.lean ====
section
/-! DEFINITION. Syntax.lean: the commands, one constructor per row of spec/opcode_table.json (30_encoding.md R112).
A command's only operands are its immediates, unsigned numbers (R111); every other operand is a fixed register (R113). -/

namespace Sys2Proof

/-- A command of the core. -/
inductive Instr where
  /-- NOP, 43_control.md R270. -/
  | nop
  /-- GF_CONFIGURE, 40_gf_multiplier.md R140: m is ARG, the field degree. -/
  | gfConfigure (m : Nat)
  /-- GF_MUL, 40_gf_multiplier.md R141. -/
  | gfMul
  /-- KEY_LOAD_PRESENT, 41_cipher.md R190: klen is ARG, the key length in bytes; rounds is RND, 0 for the default. -/
  | keyLoadPresent (klen : Nat) (rounds : Nat)
  /-- KEY_LOAD_MINI, 41_cipher.md R191: rounds is RND, 0 for the default. -/
  | keyLoadMini (rounds : Nat)
  /-- ENCRYPT, 41_cipher.md R192. -/
  | encrypt
  /-- DECRYPT, 41_cipher.md R193. -/
  | decrypt
  /-- MAC_INIT, 42_mac.md R240. -/
  | macInit
  /-- MAC_START, 42_mac.md R241. -/
  | macStart
  /-- MAC_CHUNK, 42_mac.md R242. -/
  | macChunk
  /-- IV_COND, 42_mac.md R243. -/
  | ivCond
  deriving DecidableEq, Repr

end Sys2Proof
end

