-- ==== Sys2Proof/WellFormed.lean ====
section
/-! DEFINITION. WellFormed.lean: which commands have an encoding. An immediate fits its 8-bit field (30_encoding.md R110,
R111). A value inside the field but outside the command's legal range is still a well-formed command: it raises the
command's own error (R114). -/

namespace Sys2Proof

/-- An immediate fits an 8-bit field, ARG or RND (R110). -/
def fitsField (n : Nat) : Bool := decide (n < 256)

/-- Every immediate of the command fits its field. -/
def Instr.wellFormed : Instr → Bool
  | .nop => true
  | .gfConfigure m => fitsField m
  | .gfMul => true
  | .keyLoadPresent klen rounds => fitsField klen && fitsField rounds
  | .keyLoadMini rounds => fitsField rounds
  | .encrypt => true
  | .decrypt => true
  | .macInit => true
  | .macStart => true
  | .macChunk => true
  | .ivCond => true

/-- The command has an encoding. -/
abbrev WellFormed (i : Instr) : Prop := i.wellFormed = true

end Sys2Proof
end

