-- ==== Sys2Proof/Decode.lean ====
section
/-! DEFINITION. Decode.lean: the decode function of 30_encoding.md R115, total on every 32-bit word, and the encoder of the
one format CMD32 (R110, R112). A word the decoder refuses is illegal (R114): the machine completes it with IllegalCommand. -/

namespace Sys2Proof

/-- OP = w[7:0] (R110). -/
def cmdOp (w : Word) : Nat := (w.extractLsb' 0 8).toNat

/-- ARG = w[15:8], zero-extended (R110, R111). -/
def cmdArg (w : Word) : Nat := (w.extractLsb' 8 8).toNat

/-- RND = w[23:16], zero-extended (R110, R111). -/
def cmdRnd (w : Word) : Nat := (w.extractLsb' 16 8).toNat

/-- RSV = w[31:24] (R110). -/
def cmdRsv (w : Word) : Nat := (w.extractLsb' 24 8).toNat

/-- "need c": if not c, the word is Illegal (R115). -/
def need (c : Bool) (i : Instr) : Option Instr := if c then some i else none

/-- R115 with the fields of the word in hand: the case analysis on OP. -/
def decodeFields (op arg rnd : Nat) : Option Instr :=
  if op = 0x00 then need (arg == 0 && rnd == 0) .nop
  else if op = 0x01 then need (rnd == 0) (.gfConfigure arg)
  else if op = 0x02 then need (arg == 0 && rnd == 0) .gfMul
  else if op = 0x10 then some (.keyLoadPresent arg rnd)
  else if op = 0x11 then need (arg == 0) (.keyLoadMini rnd)
  else if op = 0x12 then need (arg == 0 && rnd == 0) .encrypt
  else if op = 0x13 then need (arg == 0 && rnd == 0) .decrypt
  else if op = 0x20 then need (arg == 0 && rnd == 0) .macInit
  else if op = 0x21 then need (arg == 0 && rnd == 0) .macStart
  else if op = 0x22 then need (arg == 0 && rnd == 0) .macChunk
  else if op = 0x23 then need (arg == 0 && rnd == 0) .ivCond
  else none

/-- The decode function of R115: none is Illegal. -/
def decode (w : Word) : Option Instr :=
  if cmdRsv w ≠ 0 then none else decodeFields (cmdOp w) (cmdArg w) (cmdRnd w)

/-- A CMD32 word from its fields, RSV = 0 (R110). -/
def cmd32 (op arg rnd : Nat) : Word :=
  BitVec.ofNat 32 op ||| (BitVec.ofNat 32 arg <<< 8) ||| (BitVec.ofNat 32 rnd <<< 16)

/-- The word of a well-formed command (R110, R112). -/
def encode : Instr → Word
  | .nop => cmd32 0x00 0 0
  | .gfConfigure m => cmd32 0x01 m 0
  | .gfMul => cmd32 0x02 0 0
  | .keyLoadPresent klen rounds => cmd32 0x10 klen rounds
  | .keyLoadMini rounds => cmd32 0x11 0 rounds
  | .encrypt => cmd32 0x12 0 0
  | .decrypt => cmd32 0x13 0 0
  | .macInit => cmd32 0x20 0 0
  | .macStart => cmd32 0x21 0 0
  | .macChunk => cmd32 0x22 0 0
  | .ivCond => cmd32 0x23 0 0

/-- The 32-bit command word of an opcode-table word: the table gives every row one 32-bit word, and a word of fewer bits has
every bit above them 0. -/
def tableWord (nbits w : Nat) : Word := BitVec.ofNat 32 (w % 2 ^ nbits)

/-- The command the decoder reads from an opcode-table word. -/
def decodeTableWord (nbits w : Nat) : Option Instr := decode (tableWord nbits w)

/-- The four byte lanes of a word, lane 0 first: lane j carries bits 8j+7 down to 8j (20_memory.md R85). -/
def lanesOfWord (w : Word) : List Byte := (List.range 4).map fun j => w.extractLsb' (8 * j) 8

/-- The word whose byte lanes are given, lane 0 first; lanes past the fourth do not exist (20_memory.md R85). -/
def wordOfLanes : List Byte → Word
  | [] => 0#32
  | b :: bs => b.setWidth 32 ||| (wordOfLanes bs <<< 8)

end Sys2Proof
end

