-- ==== Sys2Proof/Machine/Operands.lean ====
section
/-! DEFINITION. Machine/Operands.lean: the operand forms of the commands. A command reads its operands from the snapshot in CUR
only (20_memory.md R92), each at the width its rule gives; the bits it does not read are ignored (41_cipher.md R176). -/

namespace Sys2Proof.Machine

/-- KEY[79:0], what a P80 key load reads (41_cipher.md R176). -/
def keyP80 (key : KeyWord) : BitVec 80 := key.setWidth 80

/-- KEY[127:0], what a P128 key load reads (41_cipher.md R176). -/
def keyP128 (key : KeyWord) : BitVec 128 := key

/-- KEY[15:0], what a Mini key load and MAC_INIT read (41_cipher.md R176, 42_mac.md R240). -/
def keyMini (key : KeyWord) : Half := key.setWidth 16

/-- DIN[7:0], the Mini block port (41_cipher.md R192). -/
def miniPort (x : Block) : Byte := x.setWidth 8

/-- GF_A[GF_M_MAX-1:0] or GF_B[GF_M_MAX-1:0], a port of the multiplier (40_gf_multiplier.md R139). -/
def gfPort (v : Word) : GfWord := v.setWidth 16

/-- RND = 0 means the variant's default (30_encoding.md R110). -/
def roundCount (rnd default : Nat) : Nat := if rnd = 0 then default else rnd

/-- x[8k+7:8k] of an IV: byte k (42_mac.md R232). -/
def ivByte (iv : Half) (k : Nat) : Byte := iv.extractLsb' (8 * k) 8

end Sys2Proof.Machine
end

