-- ==== Sys2Proof/Machine/Gfm.lean ====
section
/-! DEFINITION. Machine/Gfm.lean: the function of the GF(2^m) multiplier (40_gf_multiplier.md R131) and the other forms the spec
gives of it: the closed form (R132), the combinational XOR tree with its reduction matrix (R133, R143) and the iterative
datapath (R135). The commands use R131's GFMUL, the normative function; that every form equals it is stated, not assumed.
Field elements are packed unsigned integers, bit i the coefficient of x^i (R130). -/

namespace Sys2Proof.Machine

/-- bitlen(v): the smallest n with v < 2^n; bitlen(0) = 0 (00_scope.md R11). -/
def bitLen (v : Nat) : Nat := if v = 0 then 0 else v.log2 + 1

/-- One pass of R131's loop over p1: shift, and reduce by P when bit m is reached. -/
def timesX (m p p1 : Nat) : Nat :=
  let shifted := p1 <<< 1
  if shifted.testBit m then shifted ^^^ p else shifted

/-- The loop "while p2 != 0" of R131. The first argument bounds the passes; bitlen(p2) of them bring p2 to 0. -/
def gfMulLoop : Nat → Nat → Nat → Nat → Nat → Nat → Nat
  | 0, _, _, _, _, result => result
  | passes + 1, p1, p2, m, p, result =>
    if p2 = 0 then result
    else gfMulLoop passes (timesX m p p1) (p2 >>> 1) m p (if p2.testBit 0 then result ^^^ p1 else result)

/-- GFMUL(p1, p2, m, P) on unbounded unsigned integers (R131). -/
def gfMul (p1 p2 m p : Nat) : Nat := gfMulLoop (bitLen p2) p1 p2 m p 0 &&& ((1 <<< m) - 1)

/-- P* = (1 << m) | P[m-1:0] (R132). -/
def polyStar (m p : Nat) : Nat := (1 <<< m) ||| (p % 2 ^ m)

/-- The carry-less product of a and the low n bits of b: the XOR of a << k over k < n with b[k] = 1 (00_scope.md R11). -/
def clMul (n a b : Nat) : Nat :=
  (List.range n).foldl (fun c k => if b.testBit k then c ^^^ (a <<< k) else c) 0

/-- Division steps from bit m + n - 1 down to bit m: XOR pStar << (k - m) into c wherever c[k] is set (R133). -/
def reduceDown (m pStar : Nat) : Nat → Nat → Nat
  | 0, c => c
  | n + 1, c => reduceDown m pStar n (if c.testBit (m + n) then c ^^^ (pStar <<< n) else c)

/-- The remainder of c by a polynomial of degree m (R132's "mod"). -/
def polyMod (c m pStar : Nat) : Nat := reduceDown m pStar (bitLen c - m) c

/-- The closed form (a' ⊗ p2) mod P* (R132). -/
def gfClosedForm (p1 p2 m p : Nat) : Nat := polyMod (clMul (bitLen p2) (p1 % 2 ^ m) p2) m (polyStar m p)

/-- MULT_IMPL = COMB: AND array, XOR tree and unrolled reduction, with M = GF_M_MAX (R133). -/
def gfMulComb (a b m p : Nat) : Nat :=
  let c := clMul Config.gfMMax (a &&& ((1 <<< m) - 1)) b
  reduceDown m (polyStar m p) (2 * Config.gfMMax - 1 - m) c &&& ((1 <<< m) - 1)

/-- RC_k = x^k mod P*, a constant of the reduction matrix (R133, R143). -/
def reductionConstant (m p k : Nat) : Nat := polyMod (1 <<< k) m (polyStar m p)

/-- The reduction-matrix form: trunc_m(c) ^ XOR over k in m..2M-2 of (c[k] ? RC_k : 0) (R133). -/
def gfMulMatrix (a b m p : Nat) : Nat :=
  let c := clMul Config.gfMMax (a &&& ((1 <<< m) - 1)) b
  (List.range (2 * Config.gfMMax - 1 - m)).foldl
    (fun r j => if c.testBit (m + j) then r ^^^ reductionConstant m p (m + j) else r) (c &&& ((1 <<< m) - 1))

/-- MULT_IMPL = ITER, start: GP1 <- trunc_m(a), GP2 <- b, GACC <- 0 (R135). -/
def iterStart (a b : GfWord) (m : Nat) : BitVec 17 × GfWord × GfWord :=
  ((a &&& ((1#16 <<< m) - 1#16)).setWidth 17, b, 0#16)

/-- MULT_IMPL = ITER, one iteration over GP1, GP2, GACC (R135). -/
def iterCycle (m p : Nat) (r : BitVec 17 × GfWord × GfWord) : BitVec 17 × GfWord × GfWord :=
  let gacc := if r.2.1.getLsbD 0 then r.2.2 ^^^ r.1.setWidth 16 else r.2.2
  let t : BitVec 18 := r.1.setWidth 18 <<< 1
  let t := if t.getLsbD m then t ^^^ BitVec.ofNat 18 (polyStar m p) else t
  (t.setWidth 17, r.2.1 >>> 1, gacc)

/-- ITER run until GP2 = 0, at most the given number of iterations (R135). -/
def iterRun (m p : Nat) : Nat → BitVec 17 × GfWord × GfWord → BitVec 17 × GfWord × GfWord
  | 0, r => r
  | n + 1, r => if r.2.1 = 0#16 then r else iterRun m p n (iterCycle m p r)

/-- The result r <- trunc_m(GACC) (R135). -/
def iterResult (m : Nat) (r : BitVec 17 × GfWord × GfWord) : GfWord := r.2.2 &&& ((1#16 <<< m) - 1#16)

/-- MULT_IMPL = ITER as a function of its ports: bitlen(b) iterations, at most GF_M_MAX (R135). -/
def gfMulIter (a b : GfWord) (m p : Nat) : GfWord :=
  iterResult m (iterRun m p Config.gfMMax (iterStart a b m))

/-- The multiplier of the core: GFMUL at its ports under the field context FIELD_DEG, FIELD_POLY (R139, R141). -/
def gfmProduct (s : State) (p1 p2 : GfWord) : GfWord :=
  BitVec.ofNat 16 (gfMul p1.toNat p2.toNat s.fieldDeg.toNat s.fieldPoly.toNat)

end Sys2Proof.Machine
end

