-- ==== Sys2Proof/Machine/GfCommands.lean ====
section
/-! DEFINITION. Machine/GfCommands.lean: GF_CONFIGURE and GF_MUL (40_gf_multiplier.md R140, R141). -/

namespace Sys2Proof.Machine

/-- R140's check of m and P, one error for both: 1 <= m <= GF_M_MAX, and P has degree exactly m. -/
def fieldParamsOk (m : Nat) (p : Word) : Bool :=
  decide (1 ≤ m) && decide (m ≤ Config.gfMMax) && p.getLsbD m && (p >>> (m + 1) == 0#32)

/-- GF_CONFIGURE sets the field context (R140). -/
def execGfConfigure (m : Nat) (s : State) : Result :=
  if fieldParamsOk m s.cur.gfA then
    complete { s with fieldDeg := BitVec.ofNat 8 m, fieldPoly := s.cur.gfA, fieldValid := true }
  else raise .invalidFieldParams s

/-- GF_MUL multiplies the snapshot's GF_A and GF_B in the field context (R141). -/
def execGfMul (s : State) : Result :=
  if s.fieldValid = false then raise .fieldNotConfigured s
  else complete { s with gfR := gfmProduct s (gfPort s.cur.gfA) (gfPort s.cur.gfB) }

end Sys2Proof.Machine
end

