-- ==== Sys2Proof/Machine/Errors.lean ====
section
/-! DEFINITION. Machine/Errors.lean: which error a command raises, in the priority order of 60_exceptions.md R282 and R283, read
from those rules and not from the commands' pseudocode. The reference latencies use it (70_reset_and_hazards.md R345: any command
that raises an error takes 1 cycle); that the commands agree with it is stated as a claim. -/

namespace Sys2Proof.Machine

/-- The first of a list of checks that fails names the error; with none failing there is no error (R282). -/
def firstError : List (Bool × ErrCode) → ErrCode
  | [] => .ok
  | (failed, e) :: rest => if failed then e else firstError rest

/-- The errors of each command in priority order, each with the condition that raises it (R280, R282, R283). -/
def commandErrors (i : Instr) (s : State) : List (Bool × ErrCode) :=
  match i with
  | .nop => []
  | .gfConfigure m => [(!fieldParamsOk m s.cur.gfA, .invalidFieldParams)]
  | .gfMul => [(!s.fieldValid, .fieldNotConfigured)]
  | .keyLoadPresent klen rounds =>
    [(klen != 10 && klen != 16, .invalidKeyLength), (decide (Config.roundsMax < rounds), .invalidRounds)]
  | .keyLoadMini rounds => [(decide (Config.roundsMax < rounds), .invalidRounds)]
  | .encrypt => [(s.ksCR == 0#8, .keyNotLoaded)]
  | .decrypt => [(s.ksCR == 0#8, .keyNotLoaded)]
  | .macInit => []
  | .macStart => [(s.ksMacR == 0#8, .macNotReady)]
  | .macChunk => [(!s.macOpen, .macNotReady), (!s.fieldValid, .fieldNotConfigured)]
  | .ivCond => []

/-- The error a command raises at its completion, ok for none (R282). -/
def errorOf (i : Instr) (s : State) : ErrCode := firstError (commandErrors i s)

end Sys2Proof.Machine
end

