-- ==== Sys2Proof/Machine/Cipher.lean ====
section
/-! DEFINITION. Machine/Cipher.lean: the functions of the PRESENT round engine (41_cipher.md): the S-box and permutation layers
(R170 to R175), the key schedules (R176 to R180), ENC and DEC (R183, R185). What depends on an OPEN parameter takes the
configuration as an argument. -/

namespace Sys2Proof.Machine

/-- The S-box S (R170). -/
def sbox (x : Nibble) : Nibble :=
  [0xC#4, 0x5#4, 0x6#4, 0xB#4, 0x9#4, 0x0#4, 0xA#4, 0xD#4, 0x3#4, 0xE#4, 0xF#4, 0x8#4, 0x4#4, 0x7#4, 0x1#4, 0x2#4].getD x.toNat 0#4

/-- The inverse S-box (R171). -/
def sboxInv (y : Nibble) : Nibble :=
  [0x5#4, 0xE#4, 0xF#4, 0x8#4, 0xC#4, 0x1#4, 0x2#4, 0xD#4, 0xB#4, 0x4#4, 0x6#4, 0x3#4, 0x0#4, 0x7#4, 0x9#4, 0xA#4].getD y.toNat 0#4

/-- A substitution layer: the table applied to every one of n nibbles independently (R172). -/
def nibbleLayer {w : Nat} (table : Nibble → Nibble) (n : Nat) (s : BitVec w) : BitVec w :=
  (List.range n).foldl (fun acc j => acc ||| ((table (s.extractLsb' (4 * j) 4)).setWidth w <<< (4 * j))) 0#w

/-- sBoxLayer_16 (R172). -/
def sBoxLayer64 (s : Block) : Block := nibbleLayer sbox 16 s

/-- sBoxLayerInv_16 (R172). -/
def sBoxLayerInv64 (s : Block) : Block := nibbleLayer sboxInv 16 s

/-- sBoxLayer_2 (R172). -/
def sBoxLayer8 (s : Byte) : Byte := nibbleLayer sbox 2 s

/-- sBoxLayerInv_2 (R172). -/
def sBoxLayerInv8 (s : Byte) : Byte := nibbleLayer sboxInv 2 s

/-- A permutation layer: bit i moves to bit p i, "OR over i of (s[i] << p(i))" (R173 to R175). -/
def permuteBits {w : Nat} (p : Nat → Nat) (s : BitVec w) : BitVec w :=
  (List.range w).foldl (fun acc i => acc ||| ((if s.getLsbD i then 1#w else 0#w) <<< p i)) 0#w

/-- P64(i) (R173). -/
def p64 (i : Nat) : Nat := if i = 63 then 63 else 16 * i % 63

/-- The inverse of P64 (R174). -/
def p64Inv (j : Nat) : Nat := if j = 63 then 63 else 4 * j % 63

/-- pLayer64 (R173). -/
def pLayer64 (s : Block) : Block := permuteBits p64 s

/-- pLayerInv64 (R174). -/
def pLayerInv64 (s : Block) : Block := permuteBits p64Inv s

/-- A permutation of 0..7 as a map of bit positions. -/
def pboxIndex (p : Equiv.Perm (Fin 8)) (i : Nat) : Nat := if h : i < 8 then (p ⟨i, h⟩).val else i

/-- pLayer8 (R175). -/
def pLayer8 (cfg : Config) (s : Byte) : Byte := permuteBits (pboxIndex cfg.miniPBox) s

/-- The inverse Mini layer, through the inverse of MINI_PBOX (R175). -/
def pLayerInv8 (cfg : Config) (s : Byte) : Byte := permuteBits (pboxIndex cfg.miniPBox.symm) s

/-- The nibble at bit position lo replaced by its S-box value (R177 step 3). -/
def substNibble {w : Nat} (lo : Nat) (k : BitVec w) : BitVec w :=
  (k &&& ~~~(BitVec.ofNat w 0xF <<< lo)) ||| ((sbox (k.extractLsb' lo 4)).setWidth w <<< lo)

/-- Step 4 of R177: the round counter i XORed in at bit position pos, truncated to the register's width. -/
def addSalt {w : Nat} (pos i : Nat) (k : BitVec w) : BitVec w := k ^^^ (BitVec.ofNat w i <<< pos)

/-- The key-schedule recurrence from round i on, for the given number of rounds: extract, then update (R177). -/
def scheduleFrom {w v : Nat} (extract : BitVec w → BitVec v) (update : Nat → BitVec w → BitVec w) :
    Nat → Nat → BitVec w → List (BitVec v)
  | 0, _, _ => []
  | n + 1, i, kreg => extract kreg :: scheduleFrom extract update n (i + 1) (update i kreg)

/-- P80: KREG[79:16] (R178). -/
def extractP80 (k : BitVec 80) : Block := k.extractLsb' 16 64

/-- P80: rotate by 61, S on KREG[79:76], salt at bit 15 (R178). -/
def updateP80 (i : Nat) (k : BitVec 80) : BitVec 80 := addSalt 15 i (substNibble 76 (k.rotateLeft 61))

/-- P128: KREG[127:64] (R179). -/
def extractP128 (k : BitVec 128) : Block := k.extractLsb' 64 64

/-- P128: rotate by 61, S on KREG[127:124] and KREG[123:120], salt at bit 62 (R179). -/
def updateP128 (i : Nat) (k : BitVec 128) : BitVec 128 :=
  addSalt 62 i (substNibble 120 (substNibble 124 (k.rotateLeft 61)))

/-- MINI: KREG[15:8] (R180). -/
def extractMini (k : Half) : Byte := k.extractLsb' 8 8

/-- subst_top of MINI: S on KREG[15:12], and on KREG[11:8] too when MINI_KS_SBOX_NIBBLES = 2 (R180). -/
def substTopMini (n : MiniKsNibbles) (k : Half) : Half :=
  match n with
  | .one => substNibble 12 k
  | .two => substNibble 8 (substNibble 12 k)

/-- MINI: rotate by 7, subst_top, salt at MINI_SALT_SHIFT (R180). -/
def updateMini (cfg : Config) (i : Nat) (k : Half) : Half :=
  addSalt cfg.saltShift.val i (substTopMini cfg.ksNibbles (k.rotateLeft 7))

/-- The Mini schedule of R round keys (R176, R177, R180). -/
def miniSchedule (cfg : Config) (key : Half) (rounds : Nat) : List Byte :=
  scheduleFrom extractMini (updateMini cfg) rounds 1 key

/-- The P80 schedule of R round keys (R176 to R178). -/
def scheduleP80 (key : BitVec 80) (rounds : Nat) : List Block := scheduleFrom extractP80 updateP80 rounds 1 key

/-- The P128 schedule of R round keys (R176, R177, R179). -/
def scheduleP128 (key : BitVec 128) (rounds : Nat) : List Block := scheduleFrom extractP128 updateP128 rounds 1 key

/-- A schedule as KS_C holds it: 64-bit entries, Mini entries zero-extended from 8 bits (R181). -/
def scheduleC (cfg : Config) (v : Variant) (key : KeyWord) (rounds : Nat) : List Block :=
  match v with
  | .noKey => []
  | .mini => (miniSchedule cfg (keyMini key) rounds).map (·.setWidth 64)
  | .p80 => scheduleP80 (keyP80 key) rounds
  | .p128 => scheduleP128 (keyP128 key) rounds

/-- One full round of PRESENT without its key mixing: pLayer(sBoxLayer(s)) (R183). -/
def roundLayer64 (s : Block) : Block := pLayer64 (sBoxLayer64 s)

/-- The inverse of the round layers in reverse order: sBoxLayerInv(pLayerInv(s)) (R185). -/
def roundLayerInv64 (s : Block) : Block := sBoxLayerInv64 (pLayerInv64 s)

/-- One full round of Mini without its key mixing (R183). -/
def roundLayer8 (cfg : Config) (s : Byte) : Byte := pLayer8 cfg (sBoxLayer8 s)

/-- The inverse of Mini's round layers (R185). -/
def roundLayerInv8 (cfg : Config) (s : Byte) : Byte := sBoxLayerInv8 (pLayerInv8 cfg s)

/-- XOR each key in turn, the round layers after every one but the last: R183 over K_1..K_R, and R185 over K_R..K_1. -/
def keyedRounds {w : Nat} (layer : BitVec w → BitVec w) : List (BitVec w) → BitVec w → BitVec w
  | [], s => s
  | [k], s => s ^^^ k
  | k :: next :: ks, s => keyedRounds layer (next :: ks) (layer (s ^^^ k))

/-- ENC for a 64-bit block (R183). -/
def enc64 (ks : List Block) (x : Block) : Block := keyedRounds roundLayer64 ks x

/-- DEC for a 64-bit block: the keys in reverse order with the inverse layers (R185). -/
def dec64 (ks : List Block) (y : Block) : Block := keyedRounds roundLayerInv64 ks.reverse y

/-- ENC(MINI, K, x) (R183). -/
def encMini (cfg : Config) (ks : List Byte) (x : Byte) : Byte := keyedRounds (roundLayer8 cfg) ks x

/-- DEC(MINI, K, y) (R185). -/
def decMini (cfg : Config) (ks : List Byte) (y : Byte) : Byte := keyedRounds (roundLayerInv8 cfg) ks.reverse y

/-- The round keys of a Mini schedule held in KS_C: bits 7:0 of each entry (10_state.md R55). -/
def miniKeys (ks : List Block) : List Byte := ks.map (·.setWidth 8)

/-- zext_64(ENC(KS_C_VAR, KS_C[1..KS_C_R], x)) with the block port of the variant (R192). "if KS_C_VAR == MINI ... else": the
variant none, which no run reaches with a key loaded, is on the else side (log 15). -/
def encBlock (cfg : Config) (v : Variant) (ks : List Block) (x : Block) : Block :=
  match v with
  | .mini => (encMini cfg (miniKeys ks) (miniPort x)).setWidth 64
  | .p80 => enc64 ks x
  | .p128 => enc64 ks x
  | .noKey => enc64 ks x

/-- zext_64(DEC(KS_C_VAR, KS_C[1..KS_C_R], y)) with the block port of the variant (R193). -/
def decBlock (cfg : Config) (v : Variant) (ks : List Block) (y : Block) : Block :=
  match v with
  | .mini => (decMini cfg (miniKeys ks) (miniPort y)).setWidth 64
  | .p80 => dec64 ks y
  | .p128 => dec64 ks y
  | .noKey => dec64 ks y

/-- The host's block size in bytes, read from STATUS.KVAR (R194); 0 where no cipher is loaded. -/
def blockSize : Variant → Nat
  | .noKey => 0
  | .mini => 1
  | .p80 => 8
  | .p128 => 8

end Sys2Proof.Machine
end

