-- ==== Sys2Proof/Machine/Mac.lean ====
section
/-! DEFINITION. Machine/Mac.lean: the functions of the GMAC hash accumulator (42_mac.md R231 to R234, R243). -/

namespace Sys2Proof.Machine

/-- The hash key H = ENC(MINI, K, 0) (R231). -/
def hashKey (cfg : Config) (ks : List Byte) : Byte := encMini cfg ks 0#8

/-- The loop of GCTR in BY_VALUE mode: while x != 0, encrypt x[7:0] into byte position pos (R232). The first argument bounds
the passes; a 16-bit IV has two bytes. -/
def gctrLoop (cfg : Config) (ks : List Byte) : Nat → Half → Nat → Half → Half
  | 0, _, _, out => out
  | passes + 1, x, pos, out =>
    if x = 0#16 then out
    else gctrLoop cfg ks passes (x >>> 8) (pos + 1)
      (out ||| ((encMini cfg ks (x.setWidth 8)).setWidth 16 <<< (8 * pos)))

/-- GCTR with GCTR_BYTE_LOOP = BY_VALUE (R232). -/
def gctrByValue (cfg : Config) (ks : List Byte) (iv : Half) : Half := gctrLoop cfg ks 2 iv 0 0#16

/-- GCTR with GCTR_BYTE_LOOP = FIXED_WIDTH (R232). -/
def gctrFixedWidth (cfg : Config) (ks : List Byte) (iv : Half) : Half :=
  ((encMini cfg ks (ivByte iv 1)).setWidth 16 <<< 8) ||| (encMini cfg ks (ivByte iv 0)).setWidth 16

/-- The keystream function GCTR (R232). -/
def gctr (cfg : Config) (ks : List Byte) (iv : Half) : Half :=
  match cfg.gctrLoop with
  | .byValue => gctrByValue cfg ks iv
  | .fixedWidth => gctrFixedWidth cfg ks iv

/-- HASHSTEP(h, c) = GFMUL(trunc_M(h ^ c), zext(H), FIELD_DEG, FIELD_POLY), H = MAC_H (R233). -/
def hashStep (s : State) (h : GfWord) (c : Half) : GfWord := gfmProduct s (h ^^^ c) (s.macH.setWidth 16)

/-- TAG = HASH ^ GCTR (R234). -/
def tagOf (h : GfWord) (g : Half) : GfWord := h ^^^ g

/-- (x & 0xFFF0) | 0x0001 (R243). -/
def conditionIv (x : Half) : Half := (x &&& 0xFFF0#16) ||| 0x0001#16

end Sys2Proof.Machine
end

