-- ==== Sys2Proof/Machine/Timing.lean ====
section
/-! DEFINITION. Machine/Timing.lean: the reference latencies of 70_reset_and_hazards.md R345, in clock cycles from the cycle after
accept to completion. No step of the machine depends on them: the completion falls where the environment puts it (LAT_* are
OPEN, 00_scope.md R8). The reference datapath (Machine/Datapath.lean) takes exactly these many cycles. -/

namespace Sys2Proof.Machine

/-- LAT_GF for a multiplier operand b (R345; 40_gf_multiplier.md R133 to R135). -/
def gfLatency (cfg : Config) (b : GfWord) : Nat :=
  match cfg.multImpl with
  | .comb => 1
  | .pipe => cfg.gfPipeStages
  | .iter => max 1 (bitLen b.toNat)

/-- The number of IV bytes GCTR encrypts: 0, 1 or 2 (R345; 42_mac.md R232, R241). -/
def gctrBytes (cfg : Config) (iv : Half) : Nat :=
  match cfg.gctrLoop with
  | .byValue => (bitLen iv.toNat + 7) / 8
  | .fixedWidth => 2

/-- The reference latency of a command that raises no error (R345). -/
def commandLatency (cfg : Config) (i : Instr) (s : State) : Nat :=
  match i with
  | .nop => 1
  | .gfConfigure _ => 1
  | .gfMul => gfLatency cfg (gfPort s.cur.gfB)
  | .keyLoadPresent _ rounds => roundCount rounds Config.presentDefaultRounds + 1
  | .keyLoadMini rounds => roundCount rounds Config.miniDefaultRounds + 1
  | .encrypt => s.ksCR.toNat + 1
  | .decrypt => s.ksCR.toNat + 1
  | .macInit => 2 * (Config.miniDefaultRounds + 1)
  | .macStart => 1 + gctrBytes cfg s.cur.macIv * (Config.miniDefaultRounds + 1)
  | .macChunk => gfLatency cfg (s.macH.setWidth 16)
  | .ivCond => 1

/-- The reference latency of the command in flight; 1 for any command that raises an error, IllegalCommand among them (R345). -/
def referenceLatency (cfg : Config) (s : State) : Nat :=
  match decode s.cur.word with
  | none => 1
  | some i => if errorOf i s = .ok then commandLatency cfg i s else 1

end Sys2Proof.Machine
end

