-- ==== Sys2Proof/Machine/Datapath.lean ====
section
/-! DEFINITION. Machine/Datapath.lean: the reference datapath, one clock cycle at a time: the key-schedule datapath (41_cipher.md
R182), the encryption and decryption FSMs (R184, R186), the multiplier forms (40_gf_multiplier.md R133 to R135) and their
sequencing in the MAC commands (42_mac.md R240 to R242). A cycle writes working state only (10_state.md R59), so it is not
observable and no command's effect reads it; that the datapath stages the very values the completion step writes, in the reference
number of cycles, is a claim about the two (log 14). -/

namespace Sys2Proof.Machine

/-- K_i of a schedule, counted from 1 (41_cipher.md R177). -/
def roundKey (ks : List Block) (i : Nat) : Block := ks.getD (i - 1) 0#64

/-- One cycle of the encryption FSM over the schedule ks and the block x (R184). The cycle after accept is Init. -/
def encCycle (layer : Block → Block) (ks : List Block) (x : Block) (w : Working) : Working :=
  match w.fsm with
  | .ready => { w with st := x, rc := 1, fsm := if 2 ≤ ks.length then .blockRound else .blockFinal }
  | .blockInit => { w with st := x, rc := 1, fsm := if 2 ≤ ks.length then .blockRound else .blockFinal }
  | .blockRound =>
    { w with
      st := layer (w.st ^^^ roundKey ks w.rc.toNat)
      rc := w.rc + 1
      fsm := if w.rc.toNat < ks.length - 1 then .blockRound else .blockFinal }
  | .blockFinal => { w with staged := w.st ^^^ roundKey ks ks.length, fsm := .done }
  | .keyRounds => w
  | .multiply => w
  | .done => w

/-- One cycle of the decryption FSM, RC counting down (R186). -/
def decCycle (layer : Block → Block) (ks : List Block) (y : Block) (w : Working) : Working :=
  match w.fsm with
  | .ready =>
    { w with st := y, rc := BitVec.ofNat 8 ks.length, fsm := if 2 ≤ ks.length then .blockRound else .blockFinal }
  | .blockInit =>
    { w with st := y, rc := BitVec.ofNat 8 ks.length, fsm := if 2 ≤ ks.length then .blockRound else .blockFinal }
  | .blockRound =>
    { w with
      st := layer (w.st ^^^ roundKey ks w.rc.toNat)
      rc := w.rc - 1
      fsm := if 2 < w.rc.toNat then .blockRound else .blockFinal }
  | .blockFinal => { w with staged := w.st ^^^ roundKey ks 1, fsm := .done }
  | .keyRounds => w
  | .multiply => w
  | .done => w

/-- One cycle of the key-schedule datapath: load KREG, then one round a cycle (R182). R182 allows two stagings of the schedule, a
shadow register file or the live file with KS_C_R and KS_C_VAR committed last; DESIGN CHOICE: the model takes the shadow file, so the
live file changes at the completion step only, and MAC_INIT's schedule is staged in the same file (log 14). -/
def keyCycle (extract : KeyWord → Block) (update : Nat → KeyWord → KeyWord) (key : KeyWord) (rounds : Nat) (next : Fsm)
    (w : Working) : Working :=
  match w.fsm with
  | .ready => { w with kreg := key, rc := 1, shadow := [], fsm := .keyRounds }
  | .keyRounds =>
    { w with
      shadow := w.shadow ++ [extract w.kreg]
      kreg := update w.rc.toNat w.kreg
      rc := w.rc + 1
      fsm := if w.rc.toNat < rounds then .keyRounds else next }
  | .blockInit => w
  | .blockRound => w
  | .blockFinal => w
  | .multiply => w
  | .done => w

/-- A P80 key in the 128-bit KREG (R176, R178). -/
def keyCycleP80 (key : KeyWord) (rounds : Nat) (w : Working) : Working :=
  keyCycle (fun k => extractP80 (k.setWidth 80)) (fun i k => (updateP80 i (k.setWidth 80)).setWidth 128)
    ((keyP80 key).setWidth 128) rounds .done w

/-- A P128 key in the 128-bit KREG (R176, R179). -/
def keyCycleP128 (key : KeyWord) (rounds : Nat) (w : Working) : Working :=
  keyCycle extractP128 updateP128 (keyP128 key) rounds .done w

/-- A Mini key in the 128-bit KREG, then the FSM state next (R176, R180). -/
def keyCycleMini (cfg : Config) (key : KeyWord) (rounds : Nat) (next : Fsm) (w : Working) : Working :=
  keyCycle (fun k => (extractMini (k.setWidth 16)).setWidth 64)
    (fun i k => (updateMini cfg i (k.setWidth 16)).setWidth 128) ((keyMini key).setWidth 128) rounds next w

/-- Mini's round layers on the low byte of ST (R183). -/
def miniLayer (cfg : Config) (s : Block) : Block := (roundLayer8 cfg (miniPort s)).setWidth 64

/-- Mini's inverse round layers on the low byte of ST (R185). -/
def miniLayerInv (cfg : Config) (s : Block) : Block := (roundLayerInv8 cfg (miniPort s)).setWidth 64

/-- One cycle of ENCRYPT under the variant in KS_C (R184, R192). -/
def encryptCycle (cfg : Config) (s : State) (w : Working) : Working :=
  match s.ksCVar with
  | .mini => encCycle (miniLayer cfg) (validSchedule s) ((miniPort s.cur.din).setWidth 64) w
  | .p80 => encCycle roundLayer64 (validSchedule s) s.cur.din w
  | .p128 => encCycle roundLayer64 (validSchedule s) s.cur.din w
  | .noKey => encCycle roundLayer64 (validSchedule s) s.cur.din w

/-- One cycle of DECRYPT under the variant in KS_C (R186, R193). -/
def decryptCycle (cfg : Config) (s : State) (w : Working) : Working :=
  match s.ksCVar with
  | .mini => decCycle (miniLayerInv cfg) (validSchedule s) ((miniPort s.cur.din).setWidth 64) w
  | .p80 => decCycle roundLayerInv64 (validSchedule s) s.cur.din w
  | .p128 => decCycle roundLayerInv64 (validSchedule s) s.cur.din w
  | .noKey => decCycle roundLayerInv64 (validSchedule s) s.cur.din w

/-- One cycle of MAC_INIT: the Mini key schedule, then ENC(0) over the shadow file (42_mac.md R240, R345). -/
def macInitCycle (cfg : Config) (s : State) (w : Working) : Working :=
  match w.fsm with
  | .ready => keyCycleMini cfg s.cur.key Config.miniDefaultRounds .blockInit w
  | .keyRounds => keyCycleMini cfg s.cur.key Config.miniDefaultRounds .blockInit w
  | .blockInit => encCycle (miniLayer cfg) w.shadow 0#64 w
  | .blockRound => encCycle (miniLayer cfg) w.shadow 0#64 w
  | .blockFinal => encCycle (miniLayer cfg) w.shadow 0#64 w
  | .multiply => w
  | .done => w

/-- KS_MAC in the width of the round engine. -/
def macKeys64 (s : State) : List Block := (macSchedule s).map (·.setWidth 64)

/-- The cycle of MAC_START that ends the encryption of one IV byte: place it, and go on to the next byte if there is one
(R232, R241). -/
def macStartFinal (cfg : Config) (s : State) (w : Working) : Working :=
  let ks := macKeys64 s
  { w with
    staged := w.staged ||| ((w.st ^^^ roundKey ks ks.length) <<< (8 * w.gctrIdx))
    gctrIdx := w.gctrIdx + 1
    fsm := if w.gctrIdx + 1 < gctrBytes cfg s.cur.macIv then .blockInit else .done }

/-- One cycle of MAC_START: one cycle to begin, then the Mini encryptions of GCTR in sequence (R241, R345). -/
def macStartCycle (cfg : Config) (s : State) (w : Working) : Working :=
  let x : Block := (ivByte s.cur.macIv w.gctrIdx).setWidth 64
  match w.fsm with
  | .ready =>
    { w with gctrIdx := 0, staged := 0#64, fsm := if gctrBytes cfg s.cur.macIv = 0 then .done else .blockInit }
  | .blockInit => encCycle (miniLayer cfg) (macKeys64 s) x w
  | .blockRound => encCycle (miniLayer cfg) (macKeys64 s) x w
  | .blockFinal => macStartFinal cfg s w
  | .keyRounds => w
  | .multiply => w
  | .done => w

/-- COMB: the XOR tree gives the product in one cycle (40_gf_multiplier.md R133). -/
def combCycle (s : State) (a b : GfWord) (w : Working) : Working :=
  { w with
    staged := BitVec.ofNat 64 (gfMulComb a.toNat b.toNat s.fieldDeg.toNat s.fieldPoly.toNat)
    fsm := .done }

/-- PIPE: the same network cut into GF_PIPE_STAGES register stages. Where the cuts fall is the implementer's; here each stage
register holds the product on its way to the last one (R134, log 14). -/
def pipeCycle (cfg : Config) (s : State) (a b : GfWord) (w : Working) : Working :=
  let product := gfMulComb a.toNat b.toNat s.fieldDeg.toNat s.fieldPoly.toNat
  let held := if w.fsm = .ready then [] else w.pipe
  let pipe := BitVec.ofNat 16 product :: held
  if pipe.length < cfg.gfPipeStages then { w with pipe := pipe, fsm := .multiply }
  else { w with pipe := pipe, staged := BitVec.ofNat 64 product, fsm := .done }

/-- ITER: one iteration of R135's loop; the result stands when GP2 has run out (R135, log 14). -/
def iterDatapathCycle (s : State) (a b : GfWord) (w : Working) : Working :=
  let m := s.fieldDeg.toNat
  let r := if w.fsm = .ready then iterStart a b m else (w.gp1, w.gp2, w.gacc)
  let r := if r.2.1 = 0#16 then r else iterCycle m s.fieldPoly.toNat r
  if r.2.1 = 0#16 then
    { w with gp1 := r.1, gp2 := r.2.1, gacc := r.2.2, staged := (iterResult m r).setWidth 64, fsm := .done }
  else { w with gp1 := r.1, gp2 := r.2.1, gacc := r.2.2, fsm := .multiply }

/-- One cycle of a multiplication of a by b in the field context (R133 to R135). -/
def mulCycle (cfg : Config) (s : State) (a b : GfWord) (w : Working) : Working :=
  match cfg.multImpl with
  | .comb => combCycle s a b w
  | .pipe => pipeCycle cfg s a b w
  | .iter => iterDatapathCycle s a b w

/-- A command that needs one cycle (R345). -/
def oneCycle (w : Working) : Working := { w with fsm := .done }

/-- One cycle of a command that raises no error. -/
def commandCycle (cfg : Config) (i : Instr) (s : State) (w : Working) : Working :=
  match i with
  | .nop => oneCycle w
  | .gfConfigure _ => oneCycle w
  | .gfMul => mulCycle cfg s (gfPort s.cur.gfA) (gfPort s.cur.gfB) w
  | .keyLoadPresent klen rounds =>
    if klen = 10 then keyCycleP80 s.cur.key (roundCount rounds Config.presentDefaultRounds) w
    else keyCycleP128 s.cur.key (roundCount rounds Config.presentDefaultRounds) w
  | .keyLoadMini rounds => keyCycleMini cfg s.cur.key (roundCount rounds Config.miniDefaultRounds) .done w
  | .encrypt => encryptCycle cfg s w
  | .decrypt => decryptCycle cfg s w
  | .macInit => macInitCycle cfg s w
  | .macStart => macStartCycle cfg s w
  | .macChunk => mulCycle cfg s (s.macHash ^^^ s.cur.macDin) (s.macH.setWidth 16) w
  | .ivCond => oneCycle w

/-- One cycle of the units for the command in flight; once the result stands they wait for the completion. -/
def workCycle (cfg : Config) (s : State) (w : Working) : Working :=
  if w.fsm = .done then w
  else
    match decode s.cur.word with
    | none => oneCycle w
    | some i => if errorOf i s = .ok then commandCycle cfg i s w else oneCycle w

/-- The units after n cycles. -/
def runCycles (cfg : Config) (s : State) : Nat → Working → Working
  | 0, w => w
  | n + 1, w => runCycles cfg s n (workCycle cfg s w)

/-- One clock cycle of the core: while a command is in flight the units run; nothing else changes (10_state.md R34). -/
def clockCycle (cfg : Config) (s : State) : State :=
  match s.seq with
  | .idle => s
  | .busy => { s with work := workCycle cfg s s.work }

end Sys2Proof.Machine
end

