-- ==== Sys2Proof/Machine/CipherCommands.lean ====
section
/-! DEFINITION. Machine/CipherCommands.lean: KEY_LOAD_PRESENT, KEY_LOAD_MINI, ENCRYPT and DECRYPT (41_cipher.md R190 to R193). Each
is written under a configuration, and the machine's meaning is the one under Config.machine. -/

namespace Sys2Proof.Machine

/-- The variant a PRESENT key length selects (R190). -/
def presentVariant (klen : Nat) : Variant := if klen = 10 then .p80 else .p128

/-- KEY_LOAD_PRESENT (R190): key length, then rounds, then the schedule. No PRESENT table is an OPEN parameter. -/
def execKeyLoadPresent (klen rounds : Nat) (s : State) : Result :=
  if klen ≠ 10 ∧ klen ≠ 16 then raise .invalidKeyLength s
  else if rounds > Config.roundsMax then raise .invalidRounds s
  else
    let v := presentVariant klen
    complete (installSchedule v
      (scheduleC Config.machine v s.cur.key (roundCount rounds Config.presentDefaultRounds)) s)

/-- KEY_LOAD_MINI under a configuration (R191). -/
def keyLoadMiniUnder (cfg : Config) (rounds : Nat) (s : State) : Result :=
  if rounds > Config.roundsMax then raise .invalidRounds s
  else
    complete (installSchedule .mini
      (scheduleC cfg .mini s.cur.key (roundCount rounds Config.miniDefaultRounds)) s)

/-- KEY_LOAD_MINI (R191). -/
def execKeyLoadMini (rounds : Nat) (s : State) : Result := keyLoadMiniUnder Config.machine rounds s

/-- ENCRYPT under a configuration (R192). -/
def encryptUnder (cfg : Config) (s : State) : Result :=
  if s.ksCR = 0#8 then raise .keyNotLoaded s
  else complete (writeDout (encBlock cfg s.ksCVar (validSchedule s) s.cur.din) s)

/-- ENCRYPT (R192). -/
def execEncrypt (s : State) : Result := encryptUnder Config.machine s

/-- DECRYPT under a configuration (R193). -/
def decryptUnder (cfg : Config) (s : State) : Result :=
  if s.ksCR = 0#8 then raise .keyNotLoaded s
  else complete (writeDout (decBlock cfg s.ksCVar (validSchedule s) s.cur.din) s)

/-- DECRYPT (R193). -/
def execDecrypt (s : State) : Result := decryptUnder Config.machine s

end Sys2Proof.Machine
end

