-- ==== Sys2Proof/Machine/ControlCommands.lean ====
section
/-! DEFINITION. Machine/ControlCommands.lean: NOP (43_control.md R270). No command transfers control, touches memory or is
privileged (R271 to R273). -/

namespace Sys2Proof.Machine

/-- NOP does nothing but report success (R270). -/
def execNop (s : State) : Result := complete s

end Sys2Proof.Machine
end

