-- ==== Sys2Proof/Machine/MacCommands.lean ====
section
/-! DEFINITION. Machine/MacCommands.lean: MAC_INIT, MAC_START, MAC_CHUNK and IV_COND (42_mac.md R240 to R243). -/

namespace Sys2Proof.Machine

/-- MAC_INIT under a configuration (R240). -/
def macInitUnder (cfg : Config) (s : State) : Result :=
  let ks := miniSchedule cfg (keyMini s.cur.key) Config.miniDefaultRounds
  complete { s with
    ksMac := fileWrite s.ksMac ks
    ksMacR := BitVec.ofNat 8 Config.miniDefaultRounds
    macH := hashKey cfg ks
    macOpen := false }

/-- MAC_INIT (R240). -/
def execMacInit (s : State) : Result := macInitUnder Config.machine s

/-- MAC_START under a configuration (R241). -/
def macStartUnder (cfg : Config) (s : State) : Result :=
  if s.ksMacR = 0#8 then raise .macNotReady s
  else complete { s with
    macGctr := gctr cfg (macSchedule s) s.cur.macIv
    macHash := 0#16
    macTag := 0#16
    macOpen := true }

/-- MAC_START (R241). -/
def execMacStart (s : State) : Result := macStartUnder Config.machine s

/-- MAC_CHUNK (R242): MacNotReady is checked before FieldNotConfigured. -/
def execMacChunk (s : State) : Result :=
  if s.macOpen = false then raise .macNotReady s
  else if s.fieldValid = false then raise .fieldNotConfigured s
  else
    let h := hashStep s s.macHash s.cur.macDin
    complete { s with macHash := h, macTag := tagOf h s.macGctr }

/-- IV_COND conditions the snapshot's MAC_IV into MAC_IV (R243). -/
def execIvCond (s : State) : Result := complete { s with macIv := conditionIv s.cur.macIv }

end Sys2Proof.Machine
end

