-- ==== Sys2Proof/Machine/Dispatch.lean ====
section
/-! DEFINITION. Machine/Dispatch.lean: the meaning of each command, one arm per constructor of Instr. exec is the completion of
the command whose operands stand in CUR (70_reset_and_hazards.md R340 step 3). -/

namespace Sys2Proof.Machine

def exec (i : Instr) (s : State) : Host.Outcome State Fault Refusal :=
  match i with
  | .nop => Sys2Proof.Machine.execNop s
  | .gfConfigure m => Sys2Proof.Machine.execGfConfigure m s
  | .gfMul => Sys2Proof.Machine.execGfMul s
  | .keyLoadPresent klen rounds => Sys2Proof.Machine.execKeyLoadPresent klen rounds s
  | .keyLoadMini rounds => Sys2Proof.Machine.execKeyLoadMini rounds s
  | .encrypt => Sys2Proof.Machine.execEncrypt s
  | .decrypt => Sys2Proof.Machine.execDecrypt s
  | .macInit => Sys2Proof.Machine.execMacInit s
  | .macStart => Sys2Proof.Machine.execMacStart s
  | .macChunk => Sys2Proof.Machine.execMacChunk s
  | .ivCond => Sys2Proof.Machine.execIvCond s

end Sys2Proof.Machine
end

