-- ==== Sys2Proof/Machine/Environment.lean ====
section
/-! DEFINITION. Machine/Environment.lean: the steps of 70_reset_and_hazards.md R340: a host read, a host write, a completion, a reset;
and the clock cycle of the reference datapath. Which comes next is the environment's choice, held in State.env (log 5). -/

namespace Sys2Proof.Machine

/-- The completion of the command in flight: the decoded command, or IllegalCommand for an illegal word (R340 step 3,
30_encoding.md R114, R115). -/
def completeAccepted (s : State) : Result :=
  match decode s.cur.word with
  | some i => exec i s
  | none => raise .illegalCommand s

/-- A completion step; it is enabled only when SEQ = BUSY, and where it is not enabled nothing happens (R340, log 16). -/
def completionStep (s : State) : Result :=
  match s.seq with
  | .idle => .next s
  | .busy => completeAccepted s

/-- Every piece of the core's state at its reset value, with the reset input at a level. The environment, the bus's last
response and the count of lost writes are not the core's (R320). -/
def resetValues (level : Bool) (s : State) : State :=
  { State.reset with rst := level, env := s.env, busResp := s.busResp, lostWrites := s.lostWrites }

/-- A step while reset is asserted: accesses are lost, no command is in flight (R320, R322). For a misaligned or partial access R84 and
R290 say ERROR and R322 says lost; DESIGN CHOICE: the model follows R322 for every access during reset (log 24). -/
def stepInReset (e : EnvStep) (s : State) : State :=
  match e with
  | .read _ _ => lostRead s
  | .write _ _ _ => lostWrite s
  | .complete => s
  | .clock => s
  | .resetAssert => resetValues true s
  | .resetRelease => resetValues false s

/-- A step while reset is not asserted (R340). -/
def stepRunning (e : EnvStep) (s : State) : Result :=
  match e with
  | .read off size => .next (hostRead Config.machine off size s)
  | .write off strobes v => .next (hostWrite off strobes v s)
  | .complete => completionStep s
  | .clock => .next (clockCycle Config.machine s)
  | .resetAssert => .next (resetValues true s)
  | .resetRelease => .next s

/-- One step of the environment's choosing (R340). -/
def envStep (e : EnvStep) (s : State) : Result := if s.rst then .next (stepInReset e s) else stepRunning e s

/-- The environment has nothing to do: a command in flight completes (20_memory.md R93), an idle core holds its state and
waits (60_exceptions.md R297), and so does a core held in reset. -/
def quietStep (s : State) : Result := if s.rst then .next s else completionStep s

/-- The next step of the machine: the environment's oldest pending step, taken from the list, or a quiet one. -/
def nextStep (s : State) : Result :=
  match s.env with
  | [] => quietStep s
  | e :: rest => envStep e { s with env := rest }

/-- A command word in CUR with the snapshot of the operand registers as they stand, the core busy and out of reset, and the
completion as the environment's next step (log 10). -/
def placeCommand (w : Word) (s : State) : State :=
  { accept w s with rst := false, env := .complete :: s.env }

end Sys2Proof.Machine
end

