-- ==== Sys2Proof/Machine/Step.lean ====
section
/-! DEFINITION. Machine/Step.lean: one step of the machine (70_reset_and_hazards.md R340), and the placing of a command word so that
the next step runs it. -/

namespace Sys2Proof.Machine

/-- One step: the environment's oldest pending step, or a quiet one where none is pending (Machine/Environment.lean). -/
def step (s : State) : Host.Outcome State Fault Refusal := nextStep s

/-- The core does not fetch (10_state.md R32): the command it runs next is the one in CUR, at the completion step. So the word is
accepted, with the snapshot of s's operand registers, and the completion is the next step (log 10). -/
def State.withFetchWord (s : State) (nbits w : Nat) : State := placeCommand (tableWord nbits w) s

end Sys2Proof.Machine
end

