-- ==== Sys2Proof/Machine/HostSide.lean ====
section
/-! DEFINITION. Machine/HostSide.lean: the host's side of the interface, as lists of environment steps: the assembler statements of
30_encoding.md R117, the pseudo-instructions of R118 with the host program of 42_mac.md R245, and the big-endian conversion of
20_memory.md R86. A host's control flow is host code; a list is one run of it, with the completion of each command falling before
the last poll of its wait (log 17). No step of the machine reads this file. -/

namespace Sys2Proof.Machine

/-- wr REG, value is MemWrite(offset(REG), 4, value) (R117). -/
def asmWr (r : Reg) (v : Word) : EnvStep := .write (regOffset r) 0xF#4 v

/-- rd REG is MemRead(offset(REG), 4) (R117). -/
def asmRd (r : Reg) : EnvStep := .read (regOffset r) .word

/-- cmd value writes a raw word to CMD (R117). -/
def asmCmd (w : Word) : EnvStep := asmWr .cmd w

/-- A command mnemonic writes the encoded word to CMD (R117). -/
def asmCommand (i : Instr) : EnvStep := asmCmd (encode i)

/-- The host assembler's mnemonic of a command (R117). -/
def asmMnemonic : Instr → String
  | .nop => "nop"
  | .gfConfigure _ => "gf.cfg"
  | .gfMul => "gf.mul"
  | .keyLoadPresent _ _ => "key.present"
  | .keyLoadMini _ => "key.mini"
  | .encrypt => "enc"
  | .decrypt => "dec"
  | .macInit => "mac.init"
  | .macStart => "mac.start"
  | .macChunk => "mac.chunk"
  | .ivCond => "iv.cond"

/-- wait: poll STATUS until BUSY = 0 (R118); in this run the command completes before the poll. -/
def pseudoWait : List EnvStep := [.complete, asmRd .status]

/-- check: wait, then read STATUS for the assertion that ERR = 0 (R118). -/
def pseudoCheck : List EnvStep := pseudoWait ++ [asmRd .status]

/-- wr64 DIN, v (R118). -/
def pseudoWr64 (v : Block) : List EnvStep := [asmWr .din0 (v.extractLsb' 0 32), asmWr .din1 (v.extractLsb' 32 32)]

/-- rd64 DOUT (R118). -/
def pseudoRd64 : List EnvStep := [asmRd .dout0, asmRd .dout1]

/-- wrkey v (R118). -/
def pseudoWrKey (v : KeyWord) : List EnvStep :=
  [asmWr .key0 (v.extractLsb' 0 32), asmWr .key1 (v.extractLsb' 32 32), asmWr .key2 (v.extractLsb' 64 32),
    asmWr .key3 (v.extractLsb' 96 32)]

/-- gf.mul.full a, b -> r (R118). -/
def pseudoGfMulFull (a b : Word) : List EnvStep :=
  [asmWr .gfA a, asmWr .gfB b, asmCommand .gfMul] ++ pseudoCheck ++ [asmRd .gfR]

/-- gf.configure m, P (R118). -/
def pseudoGfConfigure (m : Nat) (p : Word) : List EnvStep :=
  [asmWr .gfA p, asmCommand (.gfConfigure m)] ++ pseudoCheck

/-- cipher.new.present key, klen[, R] (R118). -/
def pseudoCipherNewPresent (key : KeyWord) (klen rounds : Nat) : List EnvStep :=
  pseudoWrKey key ++ [asmCommand (.keyLoadPresent klen rounds)] ++ pseudoCheck

/-- cipher.new.mini key[, R]: key & 0xFFFF goes to KEY0 (R118). -/
def pseudoCipherNewMini (key rounds : Nat) : List EnvStep :=
  [asmWr .key0 (BitVec.ofNat 32 (key % 2 ^ 16)), asmCommand (.keyLoadMini rounds)] ++ pseudoCheck

/-- encrypt.block x -> y (R118). -/
def pseudoEncryptBlock (x : Block) : List EnvStep :=
  pseudoWr64 x ++ [asmCommand .encrypt] ++ pseudoCheck ++ pseudoRd64

/-- decrypt.block x -> y (R118). -/
def pseudoDecryptBlock (y : Block) : List EnvStep :=
  pseudoWr64 y ++ [asmCommand .decrypt] ++ pseudoCheck ++ pseudoRd64

/-- mac.new key[, m, P] (R118). -/
def pseudoMacNew (key m : Nat) (p : Word) : List EnvStep :=
  pseudoGfConfigure m p ++ [asmWr .key0 (BitVec.ofNat 32 (key % 2 ^ 16)), asmCommand .macInit] ++ pseudoCheck

/-- mac.new with the defaults m = 16, P = 0b10001000000001011 (R118). -/
def pseudoMacNewDefault (key : Nat) : List EnvStep := pseudoMacNew key 16 0x1100B#32

/-- The 16-bit chunks of a message, lowest first, while the remaining value is positive (R245). The first argument bounds the
passes; bitlen(msg) of them bring msg to 0. -/
def messageChunks : Nat → Nat → List Half
  | 0, _ => []
  | passes + 1, x => if x = 0 then [] else BitVec.ofNat 16 x :: messageChunks passes (x >>> 16)

/-- wr MAC_DIN, x & 0xFFFF; mac.chunk; check (R245). -/
def pseudoChunk (c : Half) : List EnvStep := [asmWr .macDin (c.setWidth 32), asmCommand .macChunk] ++ pseudoCheck

/-- mac.generate msg, iv -> tag (R118, R245). -/
def pseudoMacGenerate (msg iv : Nat) : List EnvStep :=
  [asmWr .macIv (BitVec.ofNat 32 iv), asmCommand .macStart] ++ pseudoCheck ++
    ((messageChunks (bitLen msg) msg).map pseudoChunk).flatten ++ [asmRd .macTag]

/-- mac.get_state -> h (R118, 42_mac.md R246). -/
def pseudoMacGetState : List EnvStep := [asmRd .macHash]

/-- The integer of a big-endian byte string (20_memory.md R86, 41_cipher.md R196). -/
def natOfBytes (bs : List Byte) : Nat := bs.foldl (fun acc b => 256 * acc + b.toNat) 0

/-- The n bytes of an integer, most significant first (20_memory.md R86, 41_cipher.md R196). -/
def bytesOfNat : Nat → Nat → List Byte
  | 0, _ => []
  | n + 1, v => BitVec.ofNat 8 (v / 256 ^ n) :: bytesOfNat n v

end Sys2Proof.Machine
end

