-- ==== Sys2Proof/Safety.lean ====
section
/-! DEFINITION. Safety.lean: the terms claims about runs use: the invariant of the core's registers, what a command may write
(30_encoding.md R113), and the parts of the state that must not disturb one another (42_mac.md R230). -/

namespace Sys2Proof.Machine

/-- The field context is either unconfigured and zero, or a degree in range with a polynomial of exactly that degree
(10_state.md R37, R45; 40_gf_multiplier.md R140). -/
def FieldContextOk (s : State) : Prop :=
  if s.fieldValid then
    1 ≤ s.fieldDeg.toNat ∧ s.fieldDeg.toNat ≤ Config.gfMMax ∧ s.fieldPoly.getLsbD s.fieldDeg.toNat = true ∧
      s.fieldPoly >>> (s.fieldDeg.toNat + 1) = 0#32
  else s.fieldDeg = 0#8 ∧ s.fieldPoly = 0#32

/-- The invariant of every reachable state, clause by clause from the rules. -/
structure CoreInv (s : State) : Prop where
  /-- ERR is set exactly when ERRCODE is not OK (10_state.md R35). -/
  errMatchesCode : s.err = true ↔ s.errCode ≠ .ok
  /-- The core never produces MalformedBlockInput (60_exceptions.md R284). -/
  noHostError : s.errCode ≠ .malformedBlockInput
  /-- KS_C has a variant exactly when it holds a schedule (10_state.md R38, R55). -/
  variantMatchesRounds : s.ksCVar = .noKey ↔ s.ksCR = 0#8
  /-- At most ROUNDS_MAX round keys (10_state.md R55). -/
  roundsInFile : s.ksCR.toNat ≤ Config.roundsMax
  /-- A Mini schedule uses bits [7:0] of each entry (10_state.md R55). -/
  miniEntriesNarrow : s.ksCVar = .mini → ∀ k ∈ validSchedule s, k.toNat < 256
  /-- KS_MAC_R is 0 or MINI_DEFAULT_ROUNDS (10_state.md R56). -/
  macRounds : s.ksMacR = 0#8 ∨ s.ksMacR = BitVec.ofNat 8 Config.miniDefaultRounds
  /-- MAC_H is the hash key of KS_MAC (42_mac.md R231). -/
  macHashKey : s.ksMacR ≠ 0#8 → s.macH = hashKey Config.machine (macSchedule s)
  /-- An open message has a key (42_mac.md R244). -/
  openIsKeyed : s.macOpen = true → s.ksMacR ≠ 0#8
  /-- The field context is well formed (10_state.md R45). -/
  fieldContext : FieldContextOk s
  /-- Without a configured field no product and no hash has been computed (R44, R48, R49). -/
  noProductBefore : s.fieldValid = false → s.gfR = 0#16 ∧ s.macTag = 0#16 ∧ s.macHash = 0#16
  /-- Without a key no block has been computed (R42). -/
  noBlockBefore : s.ksCR = 0#8 → doutOf s = 0#64
  /-- No command is in flight while reset is asserted (70_reset_and_hazards.md R322). -/
  resetIsIdle : s.rst = true → s.seq = .idle

/-- The host cipher context KS_C, which MAC commands never change (42_mac.md R230). -/
def cipherContext (s : State) : Vector Block 32 × Byte × Variant := (s.ksC, s.ksCR, s.ksCVar)

/-- The MAC context, which cipher commands never change (42_mac.md R230). -/
def macContext (s : State) : Vector Byte 4 × Byte × Byte × Half × Bool × GfWord × GfWord :=
  (s.ksMac, s.ksMacR, s.macH, s.macGctr, s.macOpen, s.macHash, s.macTag)

/-- The field context, shared by GF_MUL and MAC_CHUNK (10_state.md R58). -/
def fieldContext (s : State) : Bool × Byte × Word := (s.fieldValid, s.fieldDeg, s.fieldPoly)

/-- The groups of state a command can write on success, as 30_encoding.md R113 lists them; STATUS.ERR and ERRCODE belong to
every command. -/
inductive WriteGroup where
  /-- FIELD_DEG, FIELD_POLY, FIELD_VALID. -/
  | field
  /-- GF_R. -/
  | product
  /-- KS_C, KS_C_R, KS_C_VAR. -/
  | schedule
  /-- DOUT. -/
  | block
  /-- KS_MAC, KS_MAC_R, MAC_H. -/
  | macKey
  /-- MAC_GCTR. -/
  | keystream
  /-- MAC_HASH, MAC_TAG. -/
  | hash
  /-- MAC_OPEN. -/
  | openFlag
  /-- MAC_IV. -/
  | iv
  deriving DecidableEq, Repr

/-- What each command writes on success (30_encoding.md R113). -/
def writesOf : Instr → List WriteGroup
  | .nop => []
  | .gfConfigure _ => [.field]
  | .gfMul => [.product]
  | .keyLoadPresent _ _ => [.schedule]
  | .keyLoadMini _ => [.schedule]
  | .encrypt => [.block]
  | .decrypt => [.block]
  | .macInit => [.macKey, .openFlag]
  | .macStart => [.keystream, .hash, .openFlag]
  | .macChunk => [.hash]
  | .ivCond => [.iv]

/-- The registers of the window that show a group of state, STATUS aside (10_state.md R42 to R50). -/
def groupRegs : WriteGroup → List Reg
  | .field => [.fieldDeg, .fieldPoly]
  | .product => [.gfR]
  | .schedule => [.ksRounds]
  | .block => [.dout0, .dout1]
  | .macKey => [.ksRounds]
  | .keystream => []
  | .hash => [.macHash, .macTag]
  | .openFlag => []
  | .iv => [.macIv]

/-- A group of state is the same in two states. -/
def groupSame (g : WriteGroup) (s t : State) : Prop :=
  match g with
  | .field => fieldContext t = fieldContext s
  | .product => t.gfR = s.gfR
  | .schedule => cipherContext t = cipherContext s
  | .block => t.dout0 = s.dout0 ∧ t.dout1 = s.dout1
  | .macKey => t.ksMac = s.ksMac ∧ t.ksMacR = s.ksMacR ∧ t.macH = s.macH
  | .keystream => t.macGctr = s.macGctr
  | .hash => t.macHash = s.macHash ∧ t.macTag = s.macTag
  | .openFlag => t.macOpen = s.macOpen
  | .iv => t.macIv = s.macIv

/-- What no command ever writes: the operand registers other than MAC_IV (10_state.md R31), OVR (R36), CUR, the working state, the
reset input, and the environment. -/
def UntouchedByCommands (s t : State) : Prop :=
  t.key0 = s.key0 ∧ t.key1 = s.key1 ∧ t.key2 = s.key2 ∧ t.key3 = s.key3 ∧ t.din0 = s.din0 ∧ t.din1 = s.din1 ∧
    t.gfA = s.gfA ∧ t.gfB = s.gfB ∧ t.macDin = s.macDin ∧ t.ovr = s.ovr ∧ t.cur = s.cur ∧ t.work = s.work ∧
    t.rst = s.rst ∧ t.env = s.env ∧ t.busResp = s.busResp ∧ t.lostWrites = s.lostWrites

/-- The register window and the context flags at their reset values (70_reset_and_hazards.md R320): every register reads 0 but
INFO, INFO1 and INFO2, which show their constant values. -/
def ResetRegisters (s : State) : Prop :=
  (∀ r : Reg, r ≠ .info → r ≠ .info1 → r ≠ .info2 → readReg Config.machine s r = 0#32) ∧
    readReg Config.machine s .info = infoWord Config.machine ∧
    readReg Config.machine s .info1 = infoOneWord Config.machine ∧
    readReg Config.machine s .info2 = infoTwoWord Config.machine ∧
    s.seq = .idle ∧ s.ksCR = 0#8 ∧ s.ksCVar = .noKey ∧ s.ksMacR = 0#8 ∧ s.macOpen = false ∧ s.fieldValid = false

/-- n steps of the machine, stopping at the first fault or refusal. -/
def runSteps : Nat → State → Result
  | 0, s => .next s
  | n + 1, s =>
    match step s with
    | .next t => runSteps n t
    | .fault r => .fault r
    | .refused r => .refused r

/-- One update of KREG of P80, written with concatenations: rotate, S on the top nibble, salt (41_cipher.md R177, R178). -/
def nextKregP80 (i : Nat) (k : BitVec 80) : BitVec 80 :=
  let r := k.rotateLeft 61
  (sbox (r.extractLsb' 76 4) ++ r.extractLsb' 0 76) ^^^ (BitVec.ofNat 80 i <<< 15)

/-- One update of KREG of P128, written with concatenations (41_cipher.md R177, R179). -/
def nextKregP128 (i : Nat) (k : BitVec 128) : BitVec 128 :=
  let r := k.rotateLeft 61
  (sbox (r.extractLsb' 124 4) ++ sbox (r.extractLsb' 120 4) ++ r.extractLsb' 0 120) ^^^ (BitVec.ofNat 128 i <<< 62)

/-- One update of KREG of MINI, written with concatenations (41_cipher.md R177, R180). -/
def nextKregMini (cfg : Config) (i : Nat) (k : Half) : Half :=
  let r := k.rotateLeft 7
  let low : Nibble := if cfg.ksNibbles = .two then sbox (r.extractLsb' 8 4) else r.extractLsb' 8 4
  (sbox (r.extractLsb' 12 4) ++ low ++ r.extractLsb' 0 8) ^^^ (BitVec.ofNat 16 i <<< cfg.saltShift.val)

/-- MAC_CHUNK for each chunk in turn, each chunk in the snapshot of its own command (42_mac.md R242). -/
def absorbChunks : List Half → State → Result
  | [], s => .next s
  | c :: cs, s =>
    match exec .macChunk { s with cur := { s.cur with macDin := c } } with
    | .next t => absorbChunks cs t
    | .fault r => .fault r
    | .refused r => .refused r

/-- The k-th power of the hash key H in the configured field, H^0 = 1 (42_mac.md R233; 40_gf_multiplier.md R131). -/
def hashKeyPower (s : State) : Nat → Nat
  | 0 => 1
  | k + 1 => gfMul (hashKeyPower s k) s.macH.toNat s.fieldDeg.toNat s.fieldPoly.toNat

/-- The polynomial with the chunks as coefficients, at H: the first of n chunks times H^n, the last times H (00_scope.md R16,
"Horner-scheme polynomial hash over message chunks"). -/
def hashPolynomial (s : State) : List Half → Nat
  | [] => 0
  | c :: cs =>
    gfMul c.toNat (hashKeyPower s (cs.length + 1)) s.fieldDeg.toNat s.fieldPoly.toNat ^^^ hashPolynomial s cs

end Sys2Proof.Machine
end

