-- ==== Sys2Proof/Certificates/Slice0/Obligations.lean ====
section
/-! DEFINITION. Certificates/Slice0/Obligations.lean: the statements about the core, from the numbered rules of spec/. A statement about
the machine holds for every legal value of the OPEN parameters, because Config.machine has no body (log 9). -/

open Sys2Proof Sys2Proof.Machine

/-! ## Encoding -/

/-- R112, R115: every well-formed command's word decodes to that command, with every immediate at every value of its field. -/
def Obligations.DecodeOfEncodeIsTheCommand : Prop :=
  ∀ i : Instr, WellFormed i → decode (encode i) = some i

/-- R115: a word has one meaning: a word that decodes is the encoding of the well-formed command it decodes to. -/
def Obligations.EncodeOfDecodeIsTheWord : Prop :=
  ∀ (w : Word) (i : Instr), decode w = some i → WellFormed i ∧ encode i = w

/-- R114: a word is illegal in exactly the four cases of the rule; an illegal word is accepted like any command, and completes with
IllegalCommand and no other change. -/
def Obligations.IllegalWordsRaiseIllegalCommand : Prop :=
  (∀ w : Word,
    decode w = none ↔
      (w.toNat % 256 ∉ [0x00, 0x01, 0x02, 0x10, 0x11, 0x12, 0x13, 0x20, 0x21, 0x22, 0x23] ∨
        w.toNat / 16777216 ≠ 0 ∨
        (w.toNat / 256 % 256 ≠ 0 ∧ w.toNat % 256 ≠ 0x01 ∧ w.toNat % 256 ≠ 0x10) ∨
        (w.toNat / 65536 % 256 ≠ 0 ∧ w.toNat % 256 ≠ 0x10 ∧ w.toNat % 256 ≠ 0x11))) ∧
    (∀ (w : Word) (s : State) (rest : List EnvStep), decode w = none → s.rst = false → s.seq = .idle →
      s.env = .write 0x00#8 0xF#4 w :: .complete :: rest →
      ∃ t, step s = .next t ∧ t.seq = .busy ∧ t.cur.word = w ∧
        step t = .next { t with env := rest, err := true, errCode := .illegalCommand, seq := .idle })

/-- R119: each encoding example of the rule, both ways, the three illegal words, and the error of the legal word with a bad key length. -/
def Obligations.EncodingExamplesDecode : Prop :=
  (∀ e ∈ ([(.nop, 0x00000000#32), (.gfConfigure 16, 0x00001001#32), (.gfConfigure 3, 0x00000301#32), (.gfMul, 0x00000002#32),
      (.keyLoadPresent 10 0, 0x00000A10#32), (.keyLoadPresent 16 32, 0x00201010#32), (.keyLoadPresent 8 0, 0x00000810#32),
      (.keyLoadMini 0, 0x00000011#32), (.keyLoadMini 4, 0x00040011#32), (.encrypt, 0x00000012#32), (.decrypt, 0x00000013#32),
      (.macInit, 0x00000020#32), (.macStart, 0x00000021#32), (.macChunk, 0x00000022#32), (.ivCond, 0x00000023#32)] :
      List (Instr × Word)), encode e.1 = e.2 ∧ decode e.2 = some e.1) ∧
    (∀ w ∈ [0x01000000#32, 0x00000112#32, 0x00000030#32], decode w = none) ∧
    ∀ s : State, exec (.keyLoadPresent 8 0) s = .next { s with err := true, errCode := .invalidKeyLength, seq := .idle }

/-! ## Reset -/

/-- R320: when the reset input is asserted or released, every piece of state takes its reset value; so does State.reset. -/
def Obligations.ResetGivesTheResetState : Prop :=
  ResetRegisters State.reset ∧
    ∀ (s : State) (rest : List EnvStep),
      (s.env = .resetAssert :: rest ∨ (s.env = .resetRelease :: rest ∧ s.rst = true)) →
      ∃ t, step s = .next t ∧ t.env = rest ∧ ResetRegisters t

/-- R322: reset during a command abandons it: none of its writes land, BUSY = 0, the state is the reset state, and no completion
follows. An access while reset is asserted is lost: a read returns 0 with an OKAY response, a write has no effect. That this holds of
misaligned and partial accesses too, where R84 and R290 say ERROR, is the model's choice (log 24). -/
def Obligations.ResetAbandonsTheCommandInFlight : Prop :=
  (∀ (s : State) (rest : List EnvStep), s.seq = .busy → s.rst = false → s.env = .resetAssert :: .complete :: rest →
    ∃ t, step s = .next t ∧ t.seq = .idle ∧ t.rst = true ∧ ResetRegisters t ∧ step t = .next { t with env := rest }) ∧
    (∀ (s : State) (off : Offset) (size : AccessSize) (rest : List EnvStep), s.rst = true → s.env = .read off size :: rest →
      step s = .next { s with env := rest, busResp := some (.read .okay 0#32) }) ∧
    (∀ (s : State) (off : Offset) (strobes : Strobes) (v : Word) (rest : List EnvStep), s.rst = true →
      s.env = .write off strobes v :: rest →
      ∃ st, step s = .next { s with env := rest, busResp := some (.write st), lostWrites := s.lostWrites + 1 })

/-- R321: reset is the only way back to the unconfigured and unkeyed state: a step that clears FIELD_VALID, KEY_VALID or MAC_KEYED
is a reset. -/
def Obligations.OnlyResetUnconfigures : Prop :=
  ∀ s t : State, step s = .next t →
    ((s.fieldValid = true ∧ t.fieldValid = false) ∨ (keyValid s = true ∧ keyValid t = false) ∨
      (macKeyed s = true ∧ macKeyed t = false)) →
    ∃ rest, s.env = .resetAssert :: rest ∨ (s.env = .resetRelease :: rest ∧ s.rst = true)

/-! ## The step -/

/-- R340 step 3: when the command word in CUR decodes to i, a completion step is exec of i; and a word placed by withFetchWord is
the command the very next step runs. -/
def Obligations.StepRunsTheDecodedCommand : Prop :=
  (∀ (s : State) (rest : List EnvStep) (i : Instr), s.rst = false → s.seq = .busy → decode s.cur.word = some i →
    s.env = .complete :: rest → step s = exec i { s with env := rest }) ∧
    (∀ (s : State) (i : Instr), s.rst = false → s.seq = .busy → decode s.cur.word = some i → s.env = [] →
      step s = exec i s) ∧
    (∀ (s : State) (w : Nat) (i : Instr), decode (tableWord 32 w) = some i →
      step (s.withFetchWord 32 w) = exec i { accept (tableWord 32 w) s with rst := false })

/-- The core never stops: every step answers a next state, since an error is a code and no step traps (R281, R286; U section of
93_implementation_defined.md, "the core never hangs"). -/
def Obligations.EveryStepAnswersANextState : Prop := ∀ s : State, ∃ t, step s = .next t

/-- R93: every accepted command eventually completes, unless a reset comes first: from a state with a command in flight, some state
within one step more than the environment's pending steps is idle, and the first of them is reached by a completion or a reset. -/
def Obligations.AcceptedCommandCompletes : Prop :=
  ∀ s : State, s.seq = .busy → s.rst = false →
    ∃ n t u, n ≤ s.env.length ∧ runSteps n s = .next t ∧ t.seq = .busy ∧ t.cur = s.cur ∧ step t = .next u ∧
      u.seq = .idle ∧ (t.env = [] ∨ ∃ rest, t.env = .complete :: rest ∨ t.env = .resetAssert :: rest)

/-- R34: BUSY becomes 1 when the core accepts a command, stays 1 through any read, write and clock cycle, becomes 0 at its completion, and
a clock cycle between the two writes nothing but the working state. The clock step and the release of a reset that is not asserted are the
model's (logs 14 and 7). -/
def Obligations.BusyFromAcceptToCompletion : Prop :=
  (∀ (s : State) (w : Word) (rest : List EnvStep), s.rst = false → s.seq = .idle → s.env = .write 0x00#8 0xF#4 w :: rest →
    ∃ t, step s = .next t ∧ (readReg Config.machine t .status).getLsbD 0 = true) ∧
    (∀ (s : State) (e : EnvStep) (rest : List EnvStep), s.rst = false → s.seq = .busy → s.env = e :: rest → e ≠ .complete →
      e ≠ .resetAssert → ∃ t, step s = .next t ∧ t.env = rest ∧ t.cur = s.cur ∧ (readReg Config.machine t .status).getLsbD 0 = true) ∧
    (∀ (s : State) (rest : List EnvStep), s.rst = false → s.seq = .busy → s.env = .complete :: rest →
      ∃ t, step s = .next t ∧ t.env = rest ∧ (readReg Config.machine t .status).getLsbD 0 = false) ∧
    (∀ (s : State) (rest : List EnvStep), s.rst = false → s.env = .clock :: rest →
      ∃ work, step s = .next { s with env := rest, work := work })

/-! ## The register window -/

/-- R82: the register map: each listed register stands at its offset, and no other aligned offset has a register. -/
def Obligations.RegisterMapIsTheTable : Prop :=
  ∀ (off : Offset) (r : Reg), regAt off = some r ↔ off = regOffset r

/-- R83: the reserved offsets 0x5C to 0xFC read 0 and ignore writes, with an OKAY response and no side effect. -/
def Obligations.ReservedOffsetsAreRazWi : Prop :=
  ∀ (s : State) (off : Offset) (v : Word) (rest : List EnvStep), s.rst = false → 0x5C ≤ off.toNat → off.toNat % 4 = 0 →
    (s.env = .read off .word :: rest → step s = .next { s with env := rest, busResp := some (.read .okay 0#32) }) ∧
      (s.env = .write off 0xF#4 v :: rest → step s = .next { s with env := rest, busResp := some (.write .okay) })

/-- R84 and R290: an access that is misaligned, or a write without all four byte strobes, or a read of less than a word, gets an ERROR
response; it changes no core state, and a refused read returns 0. The clause on a read of less than a word is the model's deduction from
R84 (log 13), since R290 lists misaligned accesses and writes short of strobes only. -/
def Obligations.RefusedAccessChangesNothing : Prop :=
  (∀ (s : State) (off : Offset) (size : AccessSize) (rest : List EnvStep), s.rst = false → s.env = .read off size :: rest →
    (off.toNat % 4 ≠ 0 ∨ size ≠ .word) →
    step s = .next { s with env := rest, busResp := some (.read .error 0#32) }) ∧
    (∀ (s : State) (off : Offset) (strobes : Strobes) (v : Word) (rest : List EnvStep), s.rst = false →
      s.env = .write off strobes v :: rest → (off.toNat % 4 ≠ 0 ∨ strobes ≠ 0xF#4) →
      step s = .next { s with env := rest, busResp := some (.write .error) })

/-- R89: a read has no side effect: the step of a read changes nothing but the bus's answer, which is the register's value. -/
def Obligations.ReadsHaveNoSideEffects : Prop :=
  ∀ (s : State) (r : Reg) (rest : List EnvStep), s.rst = false → s.env = .read (regOffset r) .word :: rest →
    step s = .next { s with env := rest, busResp := some (.read .okay (readReg Config.machine s r)) }

/-- R90: a write to a read-only register is ignored with an OKAY response (STATUS but for OVR); a write to MAC_IV or MAC_DIN stores
bits [15:0]. -/
def Obligations.ReadOnlyWritesAreIgnored : Prop :=
  (∀ (s : State) (r : Reg) (v : Word) (rest : List EnvStep), s.rst = false →
    r ∈ [Reg.dout0, .dout1, .gfR, .fieldDeg, .fieldPoly, .macTag, .macHash, .ksRounds, .info, .info1, .info2] →
    s.env = .write (regOffset r) 0xF#4 v :: rest →
    step s = .next { s with env := rest, busResp := some (.write .okay) }) ∧
    (∀ (s : State) (v : Word) (rest : List EnvStep), s.rst = false → s.env = .write 0x04#8 0xF#4 v :: rest →
      step s = .next { s with env := rest, busResp := some (.write .okay), ovr := s.ovr && !v.getLsbD 2 }) ∧
    (∀ (s : State) (v : Word) (rest : List EnvStep), s.rst = false → s.env = .write 0x3C#8 0xF#4 v :: rest →
      step s = .next { s with env := rest, busResp := some (.write .okay), macIv := v.extractLsb' 0 16 }) ∧
    (∀ (s : State) (v : Word) (rest : List EnvStep), s.rst = false → s.env = .write 0x40#8 0xF#4 v :: rest →
      step s = .next { s with env := rest, busResp := some (.write .okay), macDin := v.extractLsb' 0 16 })

/-- R40, R41, R43: the 32-bit operand registers store what is written, each at its own offset, and nothing else changes. -/
def Obligations.OperandWritesStoreTheWord : Prop :=
  ∀ (s : State) (v : Word) (rest : List EnvStep), s.rst = false →
    (s.env = .write 0x08#8 0xF#4 v :: rest → step s = .next { s with env := rest, busResp := some (.write .okay), key0 := v }) ∧
    (s.env = .write 0x0C#8 0xF#4 v :: rest → step s = .next { s with env := rest, busResp := some (.write .okay), key1 := v }) ∧
    (s.env = .write 0x10#8 0xF#4 v :: rest → step s = .next { s with env := rest, busResp := some (.write .okay), key2 := v }) ∧
    (s.env = .write 0x14#8 0xF#4 v :: rest → step s = .next { s with env := rest, busResp := some (.write .okay), key3 := v }) ∧
    (s.env = .write 0x18#8 0xF#4 v :: rest → step s = .next { s with env := rest, busResp := some (.write .okay), din0 := v }) ∧
    (s.env = .write 0x1C#8 0xF#4 v :: rest → step s = .next { s with env := rest, busResp := some (.write .okay), din1 := v }) ∧
    (s.env = .write 0x28#8 0xF#4 v :: rest → step s = .next { s with env := rest, busResp := some (.write .okay), gfA := v }) ∧
    (s.env = .write 0x2C#8 0xF#4 v :: rest → step s = .next { s with env := rest, busResp := some (.write .okay), gfB := v })

/-- R91 and R92: a CMD write with SEQ = IDLE is accepted with a snapshot of the operand registers; with SEQ = BUSY it is dropped and only
OVR is set; and no host access but an accepted CMD write changes the snapshot. -/
def Obligations.CmdWriteAcceptsOrOverruns : Prop :=
  (∀ (s : State) (w : Word) (rest : List EnvStep), s.rst = false → s.seq = .idle → s.env = .write 0x00#8 0xF#4 w :: rest →
    ∃ work, step s = .next { s with
      env := rest
      busResp := some (.write .okay)
      seq := .busy
      work := work
      cur := {
        word := w
        key := s.key3 ++ s.key2 ++ s.key1 ++ s.key0
        din := s.din1 ++ s.din0
        gfA := s.gfA
        gfB := s.gfB
        macIv := s.macIv
        macDin := s.macDin } }) ∧
    (∀ (s : State) (w : Word) (rest : List EnvStep), s.rst = false → s.seq = .busy → s.env = .write 0x00#8 0xF#4 w :: rest →
      step s = .next { s with env := rest, busResp := some (.write .okay), ovr := true }) ∧
    (∀ (s t : State) (off : Offset) (strobes : Strobes) (v : Word) (rest : List EnvStep), s.rst = false → s.seq = .busy →
      s.env = .write off strobes v :: rest → step s = .next t → t.cur = s.cur ∧ t.seq = .busy)

/-- R36: a CMD write while BUSY = 1 sets OVR, and nothing else does; a STATUS write with bit 2 = 1 clears it, one with bit 2 = 0 leaves it,
and nothing else but reset clears it; reset does. -/
def Obligations.OverrunFlagIsSticky : Prop :=
  (∀ (s : State) (w : Word) (rest : List EnvStep), s.rst = false → s.seq = .busy → s.env = .write 0x00#8 0xF#4 w :: rest →
    ∃ t, step s = .next t ∧ t.ovr = true) ∧
    (∀ (s : State) (v : Word) (rest : List EnvStep), s.rst = false → s.env = .write 0x04#8 0xF#4 v :: rest →
      ∃ t, step s = .next t ∧ t.ovr = (if v.getLsbD 2 then false else s.ovr)) ∧
    (∀ (s : State) (rest : List EnvStep), s.env = .resetAssert :: rest → ∃ t, step s = .next t ∧ t.ovr = false) ∧
    (∀ s t : State, step s = .next t → s.ovr = false → t.ovr = true →
      s.seq = .busy ∧ ∃ w rest, s.env = .write 0x00#8 0xF#4 w :: rest) ∧
    (∀ s t : State, step s = .next t → s.ovr = true → t.ovr = false →
      ∃ rest, (∃ v : Word, v.getLsbD 2 = true ∧ s.env = .write 0x04#8 0xF#4 v :: rest) ∨ s.env = .resetAssert :: rest ∨
        (s.env = .resetRelease :: rest ∧ s.rst = true))

/-- R33, R38, R39: the fields of STATUS, each at its bits, the reserved bits 7 and 31:14 reading 0. -/
def Obligations.StatusFieldsAtTheirBits : Prop :=
  ∀ s : State,
    ((statusWord s).getLsbD 0 = true ↔ s.seq = .busy) ∧ (statusWord s).getLsbD 1 = s.err ∧
      (statusWord s).getLsbD 2 = s.ovr ∧ (statusWord s).getLsbD 3 = s.fieldValid ∧
      ((statusWord s).getLsbD 4 = true ↔ s.ksCR ≠ 0#8) ∧ ((statusWord s).getLsbD 5 = true ↔ s.ksMacR ≠ 0#8) ∧
      (statusWord s).getLsbD 6 = s.macOpen ∧ (statusWord s).getLsbD 7 = false ∧
      ((statusWord s).extractLsb' 8 4).toNat = errNumber s.errCode ∧
      ((statusWord s).extractLsb' 12 2).toNat = variantNumber s.ksCVar ∧ (statusWord s).extractLsb' 14 18 = 0#18

/-- R52, R53, R54: the identification registers show the parameters, field by field, for every configuration. -/
def Obligations.IdentificationRegistersShowTheParameters : Prop :=
  ∀ cfg : Config,
    (infoWord cfg).extractLsb' 0 8 = 16#8 ∧ (infoWord cfg).extractLsb' 8 8 = 32#8 ∧
      ((infoWord cfg).extractLsb' 16 2).toNat = implNumber cfg.multImpl ∧
      ((infoWord cfg).getLsbD 18 = true ↔ cfg.gctrLoop = .fixedWidth) ∧
      ((infoWord cfg).getLsbD 19 = true ↔ cfg.ksNibbles = .two) ∧ (infoWord cfg).extractLsb' 20 4 = 0#4 ∧
      (infoWord cfg).extractLsb' 24 8 = 1#8 ∧
      (infoOneWord cfg).extractLsb' 0 8 = 32#8 ∧ (infoOneWord cfg).extractLsb' 8 8 = 4#8 ∧
      ((infoOneWord cfg).extractLsb' 16 4).toNat = cfg.saltShift.val ∧ (infoOneWord cfg).extractLsb' 20 4 = 0#4 ∧
      ((infoOneWord cfg).extractLsb' 24 8).toNat = (if cfg.multImpl = .pipe then min cfg.gfPipeStages 255 else 0) ∧
      (∀ i : Fin 8, ((infoTwoWord cfg).extractLsb' (3 * i.val) 3).toNat = (cfg.miniPBox i).val) ∧
      (infoTwoWord cfg).extractLsb' 24 8 = 0#8

/-! ## Errors, frames and invariants -/

/-- R281, R282, R283: a command raises the first error of its list whose condition holds, and then nothing changes but ERR, ERRCODE and
BUSY; with no such condition it ends with ERR = 0 and ERRCODE = 0. -/
def Obligations.FailingCommandsArePrecise : Prop :=
  ∀ (i : Instr) (s : State),
    (errorOf i s ≠ .ok → exec i s = .next { s with err := true, errCode := errorOf i s, seq := .idle }) ∧
      (errorOf i s = .ok → ∃ t, exec i s = .next t ∧ t.err = false ∧ t.errCode = .ok ∧ t.seq = .idle)

/-- R113: a command writes only the groups of state its row lists, and ERR, ERRCODE and BUSY; every byte of the window outside STATUS and
the registers of those groups reads as before. -/
def Obligations.CommandsWriteOnlyTheirRow : Prop :=
  ∀ (i : Instr) (s t : State), exec i s = .next t →
    UntouchedByCommands s t ∧ (∀ g : WriteGroup, g ∉ writesOf i → groupSame g s t) ∧
      ∀ off : Offset, (∀ r : Reg, regAt (off &&& 0xFC#8) = some r → r ≠ .status ∧ ∀ g ∈ writesOf i, r ∉ groupRegs g) →
        windowByte Config.machine t off = windowByte Config.machine s off

/-- R230: a key load, an ENCRYPT or a DECRYPT never changes the MAC context, and MAC commands never change KS_C. -/
def Obligations.CipherAndMacContextsAreSeparate : Prop :=
  ∀ s t : State,
    (∀ i : Instr, (i = .encrypt ∨ i = .decrypt ∨ (∃ klen rounds, i = .keyLoadPresent klen rounds) ∨
      ∃ rounds, i = .keyLoadMini rounds) → exec i s = .next t → macContext t = macContext s) ∧
    (∀ i : Instr, (i = .macInit ∨ i = .macStart ∨ i = .macChunk ∨ i = .ivCond) → exec i s = .next t →
      cipherContext t = cipherContext s)

/-- The invariant holds at reset. -/
def Obligations.InvariantHoldsAtReset : Prop := CoreInv State.reset

/-- From every state that meets the invariant, every step keeps it: ERR agrees with ERRCODE, code 3 is never produced (R284), KS_C is
within its file and its variant agrees with its count (R55), KS_MAC_R is 0 or MINI_DEFAULT_ROUNDS and MAC_H is the hash key of KS_MAC
(R56, R231), an open message is keyed (R244), and the field context is well formed (R45). -/
def Obligations.EveryStepKeepsTheInvariant : Prop := ∀ s t : State, CoreInv s → step s = .next t → CoreInv t

/-- R247: the keystream of an open message is latched: only the completion of a MAC_START, or reset, changes MAC_GCTR. -/
def Obligations.KeystreamChangesOnlyAtMacStart : Prop :=
  ∀ s t : State, step s = .next t → t.macGctr ≠ s.macGctr →
    (s.seq = .busy ∧ s.rst = false ∧ decode s.cur.word = some .macStart ∧ (s.env = [] ∨ ∃ rest, s.env = .complete :: rest)) ∨
      ∃ rest, s.env = .resetAssert :: rest ∨ (s.env = .resetRelease :: rest ∧ s.rst = true)

/-! ## Commands -/

/-- R270: NOP reports success and nothing else; its word is 0x00000000 exactly. -/
def Obligations.NopReportsSuccess : Prop :=
  (∀ w : Word, decode w = some .nop ↔ w = 0x00000000#32) ∧
    ∀ s : State, exec .nop s = .next { s with err := false, errCode := .ok, seq := .idle }

/-- R140: GF_CONFIGURE sets the field context when 1 <= m <= GF_M_MAX and P has degree exactly m, and otherwise raises
InvalidFieldParams; its words are OP = 0x01, ARG = m and zeros. -/
def Obligations.GfConfigureSetsTheField : Prop :=
  (∀ (w : Word) (m : Nat), decode w = some (.gfConfigure m) ↔ m < 256 ∧ w.toNat = 256 * m + 1) ∧
    ∀ (m : Nat) (s : State),
    (1 ≤ m → m ≤ 16 → 2 ^ m ≤ s.cur.gfA.toNat → s.cur.gfA.toNat < 2 ^ (m + 1) →
      exec (.gfConfigure m) s = .next { s with
        fieldDeg := BitVec.ofNat 8 m, fieldPoly := s.cur.gfA, fieldValid := true
        err := false, errCode := .ok, seq := .idle }) ∧
    (¬(1 ≤ m ∧ m ≤ 16 ∧ 2 ^ m ≤ s.cur.gfA.toNat ∧ s.cur.gfA.toNat < 2 ^ (m + 1)) →
      exec (.gfConfigure m) s = .next { s with err := true, errCode := .invalidFieldParams, seq := .idle })

/-- R141, R139: GF_MUL puts GFMUL of the snapshot's GF_A and GF_B, each cut to GF_M_MAX bits, into GF_R, and in a well-formed field
context the whole value of GFMUL fits, below 2^FIELD_DEG; without a configured field it raises FieldNotConfigured. -/
def Obligations.GfMulWritesTheProduct : Prop :=
  ∀ s : State,
    (s.fieldValid = true →
      exec .gfMul s = .next { s with
        gfR := BitVec.ofNat 16 (gfMul (s.cur.gfA.toNat % 65536) (s.cur.gfB.toNat % 65536) s.fieldDeg.toNat s.fieldPoly.toNat)
        err := false, errCode := .ok, seq := .idle }) ∧
    (s.fieldValid = true → FieldContextOk s → ∀ t, exec .gfMul s = .next t →
      t.gfR.toNat = gfMul (s.cur.gfA.toNat % 65536) (s.cur.gfB.toNat % 65536) s.fieldDeg.toNat s.fieldPoly.toNat ∧
        t.gfR.toNat < 2 ^ s.fieldDeg.toNat) ∧
    (s.fieldValid = false →
      exec .gfMul s = .next { s with err := true, errCode := .fieldNotConfigured, seq := .idle })

/-- R190 with R176 to R179: KEY_LOAD_PRESENT checks the key length, then the rounds; then KS_C[i], for i = 1..R, is extracted from the
i-th KREG of the recurrence, the entries above R keep their values, and KS_C_R and KS_C_VAR are set. -/
def Obligations.KeyLoadPresentInstallsTheSchedule : Prop :=
  ∀ (klen rounds : Nat) (s : State),
    (klen ≠ 10 → klen ≠ 16 →
      exec (.keyLoadPresent klen rounds) s = .next { s with err := true, errCode := .invalidKeyLength, seq := .idle }) ∧
    ((klen = 10 ∨ klen = 16) → 32 < rounds →
      exec (.keyLoadPresent klen rounds) s = .next { s with err := true, errCode := .invalidRounds, seq := .idle }) ∧
    ((klen = 10 ∨ klen = 16) → rounds ≤ 32 →
      ∃ (count : Nat) (file : Vector Block 32),
        count = (if rounds = 0 then 32 else rounds) ∧
        exec (.keyLoadPresent klen rounds) s = .next { s with
          ksC := file, ksCR := BitVec.ofNat 8 count, ksCVar := if klen = 10 then .p80 else .p128
          err := false, errCode := .ok, seq := .idle } ∧
        (∀ i : Fin 32, count ≤ i.val → file[i] = s.ksC[i]) ∧
        (klen = 10 → ∀ kreg : Nat → BitVec 80, kreg 1 = s.cur.key.extractLsb' 0 80 →
          (∀ i, 1 ≤ i → kreg (i + 1) = nextKregP80 i (kreg i)) →
          ∀ i : Fin 32, i.val < count → file[i] = (kreg (i.val + 1)).extractLsb' 16 64) ∧
        (klen = 16 → ∀ kreg : Nat → BitVec 128, kreg 1 = s.cur.key →
          (∀ i, 1 ≤ i → kreg (i + 1) = nextKregP128 i (kreg i)) →
          ∀ i : Fin 32, i.val < count → file[i] = (kreg (i.val + 1)).extractLsb' 64 64))

/-- R191 with R176, R177, R180: KEY_LOAD_MINI checks the rounds, then installs the Mini schedule, each entry zero-extended. -/
def Obligations.KeyLoadMiniInstallsTheSchedule : Prop :=
  ∀ (rounds : Nat) (s : State),
    (32 < rounds →
      exec (.keyLoadMini rounds) s = .next { s with err := true, errCode := .invalidRounds, seq := .idle }) ∧
    (rounds ≤ 32 →
      ∃ (count : Nat) (file : Vector Block 32),
        count = (if rounds = 0 then 4 else rounds) ∧
        exec (.keyLoadMini rounds) s = .next { s with
          ksC := file, ksCR := BitVec.ofNat 8 count, ksCVar := .mini
          err := false, errCode := .ok, seq := .idle } ∧
        (∀ i : Fin 32, count ≤ i.val → file[i] = s.ksC[i]) ∧
        (∀ kreg : Nat → Half, kreg 1 = s.cur.key.extractLsb' 0 16 →
          (∀ i, 1 ≤ i → kreg (i + 1) = nextKregMini Config.machine i (kreg i)) →
          ∀ i : Fin 32, i.val < count → (file[i]).toNat = ((kreg (i.val + 1)).extractLsb' 8 8).toNat))

/-- R192, R183: ENCRYPT without a key raises KeyNotLoaded; with a schedule of R keys it runs R - 1 full rounds and one final key mixing, on
64 bits for PRESENT and on DIN[7:0] for Mini. -/
def Obligations.EncryptRunsTheRounds : Prop :=
  ∀ s : State,
    (s.ksCR = 0#8 → exec .encrypt s = .next { s with err := true, errCode := .keyNotLoaded, seq := .idle }) ∧
    (s.ksCR ≠ 0#8 → s.ksCR.toNat ≤ 32 → s.ksCVar ≠ .mini →
      ∀ st : Nat → Block, st 0 = s.cur.din →
        (∀ i : Fin 32, i.val + 1 < s.ksCR.toNat → st (i.val + 1) = pLayer64 (sBoxLayer64 (st i.val ^^^ s.ksC[i]))) →
        ∀ last : Fin 32, last.val + 1 = s.ksCR.toNat →
        exec .encrypt s = .next { s with
          dout1 := (st last.val ^^^ s.ksC[last]).extractLsb' 32 32
          dout0 := (st last.val ^^^ s.ksC[last]).extractLsb' 0 32
          err := false, errCode := .ok, seq := .idle }) ∧
    (s.ksCR ≠ 0#8 → s.ksCR.toNat ≤ 32 → s.ksCVar = .mini →
      ∀ st : Nat → Byte, st 0 = s.cur.din.extractLsb' 0 8 →
        (∀ i : Fin 32, i.val + 1 < s.ksCR.toNat →
          st (i.val + 1) = pLayer8 Config.machine (sBoxLayer8 (st i.val ^^^ (s.ksC[i]).extractLsb' 0 8))) →
        ∀ last : Fin 32, last.val + 1 = s.ksCR.toNat →
        exec .encrypt s = .next { s with
          dout1 := 0#32
          dout0 := (st last.val ^^^ (s.ksC[last]).extractLsb' 0 8).setWidth 32
          err := false, errCode := .ok, seq := .idle })

/-- R193, R185: DECRYPT without a key raises KeyNotLoaded; with a schedule of R keys it mixes K_R first, undoes R - 1 rounds with the
inverse layers, permutation first, and mixes K_1 last. -/
def Obligations.DecryptRunsTheInverseRounds : Prop :=
  ∀ s : State,
    (s.ksCR = 0#8 → exec .decrypt s = .next { s with err := true, errCode := .keyNotLoaded, seq := .idle }) ∧
    (s.ksCR ≠ 0#8 → s.ksCR.toNat ≤ 32 → s.ksCVar ≠ .mini →
      ∀ st : Nat → Block, st (s.ksCR.toNat - 1) = s.cur.din →
        (∀ i : Fin 32, 1 ≤ i.val → i.val < s.ksCR.toNat → st (i.val - 1) = sBoxLayerInv64 (pLayerInv64 (st i.val ^^^ s.ksC[i]))) →
        exec .decrypt s = .next { s with
          dout1 := (st 0 ^^^ s.ksC[(0 : Fin 32)]).extractLsb' 32 32
          dout0 := (st 0 ^^^ s.ksC[(0 : Fin 32)]).extractLsb' 0 32
          err := false, errCode := .ok, seq := .idle }) ∧
    (s.ksCR ≠ 0#8 → s.ksCR.toNat ≤ 32 → s.ksCVar = .mini →
      ∀ st : Nat → Byte, st (s.ksCR.toNat - 1) = s.cur.din.extractLsb' 0 8 →
        (∀ i : Fin 32, 1 ≤ i.val → i.val < s.ksCR.toNat →
          st (i.val - 1) = sBoxLayerInv8 (pLayerInv8 Config.machine (st i.val ^^^ (s.ksC[i]).extractLsb' 0 8))) →
        exec .decrypt s = .next { s with
          dout1 := 0#32
          dout0 := (st 0 ^^^ (s.ksC[(0 : Fin 32)]).extractLsb' 0 8).setWidth 32
          err := false, errCode := .ok, seq := .idle })

/-- R240, R231: MAC_INIT writes the Mini schedule of KEY[15:0] into KS_MAC, MINI_DEFAULT_ROUNDS into KS_MAC_R, the encryption of 0 under it
into MAC_H, and closes an open message; MAC_HASH and MAC_TAG keep their values. -/
def Obligations.MacInitKeysTheMac : Prop :=
  ∀ s : State, ∃ (file : Vector Byte 4) (h : Byte),
    exec .macInit s = .next { s with
      ksMac := file, ksMacR := 4#8, macH := h, macOpen := false
      err := false, errCode := .ok, seq := .idle } ∧
    h = encMini Config.machine file.toList 0#8 ∧
    (∀ kreg : Nat → Half, kreg 1 = s.cur.key.extractLsb' 0 16 →
      (∀ i, 1 ≤ i → kreg (i + 1) = nextKregMini Config.machine i (kreg i)) →
      ∀ i : Fin 4, file[i] = (kreg (i.val + 1)).extractLsb' 8 8)

/-- R241, R232: MAC_START without a MAC key raises MacNotReady; with one it latches GCTR of the snapshot's IV, byte by byte, clears MAC_HASH
and MAC_TAG, and opens the message. In BY_VALUE mode the high byte of the IV is encrypted only when the IV is 0x100 or more, and
nothing is encrypted for the IV 0. -/
def Obligations.MacStartOpensTheMessage : Prop :=
  ∀ s : State,
    (s.ksMacR = 0#8 → exec .macStart s = .next { s with err := true, errCode := .macNotReady, seq := .idle }) ∧
    (s.ksMacR ≠ 0#8 →
      exec .macStart s = .next { s with
        macGctr :=
          (if Config.machine.gctrLoop = .byValue ∧ s.cur.macIv.toNat < 0x100 then 0#8
            else encMini Config.machine s.ksMac.toList (s.cur.macIv.extractLsb' 8 8)) ++
          (if Config.machine.gctrLoop = .byValue ∧ s.cur.macIv = 0#16 then 0#8
            else encMini Config.machine s.ksMac.toList (s.cur.macIv.extractLsb' 0 8))
        macHash := 0#16, macTag := 0#16, macOpen := true
        err := false, errCode := .ok, seq := .idle })

/-- R242, R233, R234: MAC_CHUNK raises MacNotReady with no open message, then FieldNotConfigured without a field; otherwise MAC_HASH becomes
GFMUL(MAC_HASH ^ MAC_DIN, MAC_H) in the field context and MAC_TAG that value XOR MAC_GCTR. -/
def Obligations.MacChunkAbsorbsOneChunk : Prop :=
  ∀ s : State,
    (s.macOpen = false → exec .macChunk s = .next { s with err := true, errCode := .macNotReady, seq := .idle }) ∧
    (s.macOpen = true → s.fieldValid = false →
      exec .macChunk s = .next { s with err := true, errCode := .fieldNotConfigured, seq := .idle }) ∧
    (s.macOpen = true → s.fieldValid = true → ∀ h : GfWord,
      h = BitVec.ofNat 16
        (gfMul (s.macHash ^^^ s.cur.macDin).toNat s.macH.toNat s.fieldDeg.toNat s.fieldPoly.toNat) →
      exec .macChunk s = .next { s with
        macHash := h, macTag := h ^^^ s.macGctr, err := false, errCode := .ok, seq := .idle })

/-- R243: IV_COND keeps bits [15:4] of the snapshot's IV and forces its low nibble to 0b0001, and nothing else; its word is 0x00000023
exactly. -/
def Obligations.IvCondForcesTheLowNibble : Prop :=
  (∀ w : Word, decode w = some .ivCond ↔ w = 0x00000023#32) ∧
    ∀ s : State, exec .ivCond s = .next { s with
      macIv := s.cur.macIv.extractLsb' 4 12 ++ 1#4, err := false, errCode := .ok, seq := .idle }

/-- R244: the MAC state machine: what each MAC command leaves of MAC_KEYED and MAC_OPEN, where it is not ready, and that reset enters
UNKEYED. -/
def Obligations.MacStateMachineIsTheTable : Prop :=
  (macKeyed State.reset = false ∧ State.reset.macOpen = false) ∧
    ∀ s : State,
    (∃ t, exec .macInit s = .next t ∧ macKeyed t = true ∧ t.macOpen = false ∧ t.errCode = .ok) ∧
    (macKeyed s = false → ∃ t, exec .macStart s = .next t ∧ macKeyed t = false ∧ t.macOpen = s.macOpen ∧ t.errCode = .macNotReady) ∧
    (macKeyed s = true → ∃ t, exec .macStart s = .next t ∧ macKeyed t = true ∧ t.macOpen = true ∧ t.errCode = .ok) ∧
    (s.macOpen = false → ∃ t, exec .macChunk s = .next t ∧ macKeyed t = macKeyed s ∧ t.macOpen = false ∧ t.errCode = .macNotReady) ∧
    (s.macOpen = true → ∃ t, exec .macChunk s = .next t ∧ macKeyed t = macKeyed s ∧ t.macOpen = true ∧
      t.errCode = (if s.fieldValid then .ok else .fieldNotConfigured))

/-- R176: the key bits a variant does not read are ignored: a Mini key load and MAC_INIT give the same contexts for keys that agree in bits
[15:0], a P80 load for keys that agree in bits [79:0]; and a Mini ENCRYPT or DECRYPT reads DIN[7:0] only (R192). -/
def Obligations.UnreadOperandBitsAreIgnored : Prop :=
  ∀ (s t u : State) (key : KeyWord) (din : Block),
    (key.extractLsb' 0 16 = s.cur.key.extractLsb' 0 16 →
      (∀ rounds, exec (.keyLoadMini rounds) s = .next t →
        exec (.keyLoadMini rounds) { s with cur := { s.cur with key := key } } = .next u → cipherContext u = cipherContext t) ∧
      (exec .macInit s = .next t → exec .macInit { s with cur := { s.cur with key := key } } = .next u →
        macContext u = macContext t)) ∧
    (key.extractLsb' 0 80 = s.cur.key.extractLsb' 0 80 → ∀ rounds, exec (.keyLoadPresent 10 rounds) s = .next t →
      exec (.keyLoadPresent 10 rounds) { s with cur := { s.cur with key := key } } = .next u →
      cipherContext u = cipherContext t) ∧
    (din.extractLsb' 0 8 = s.cur.din.extractLsb' 0 8 → s.ksCVar = .mini →
      (exec .encrypt s = .next t → exec .encrypt { s with cur := { s.cur with din := din } } = .next u → doutOf u = doutOf t) ∧
      (exec .decrypt s = .next t → exec .decrypt { s with cur := { s.cur with din := din } } = .next u → doutOf u = doutOf t))

/-! ## The round engine's functions -/

/-- R170, R171: the two S-box tables, and that each undoes the other on all 16 values. -/
def Obligations.SboxTablesAreInverse : Prop :=
  (List.range 16).map (fun x => (sbox (BitVec.ofNat 4 x)).toNat) =
      [0xC, 0x5, 0x6, 0xB, 0x9, 0x0, 0xA, 0xD, 0x3, 0xE, 0xF, 0x8, 0x4, 0x7, 0x1, 0x2] ∧
    (List.range 16).map (fun y => (sboxInv (BitVec.ofNat 4 y)).toNat) =
      [0x5, 0xE, 0xF, 0x8, 0xC, 0x1, 0x2, 0xD, 0xB, 0x4, 0x6, 0x3, 0x0, 0x7, 0x9, 0xA] ∧
    (∀ x : Nibble, sboxInv (sbox x) = x) ∧ ∀ y : Nibble, sbox (sboxInv y) = y

/-- R172: a substitution layer applies the table to every nibble independently; and the rule's example. -/
def Obligations.SubstitutionLayersActOnEachNibble : Prop :=
  (∀ (s : Block) (j : Nat), j < 16 →
    (sBoxLayer64 s).extractLsb' (4 * j) 4 = sbox (s.extractLsb' (4 * j) 4) ∧
      (sBoxLayerInv64 s).extractLsb' (4 * j) 4 = sboxInv (s.extractLsb' (4 * j) 4)) ∧
    (∀ (s : Byte) (j : Nat), j < 2 →
      (sBoxLayer8 s).extractLsb' (4 * j) 4 = sbox (s.extractLsb' (4 * j) 4) ∧
        (sBoxLayerInv8 s).extractLsb' (4 * j) 4 = sboxInv (s.extractLsb' (4 * j) 4)) ∧
    sBoxLayer64 0x0123456789ABCDEF#64 = 0xC56B90AD3EF84712#64

/-- R173, R174, R175: the permutation layers move each bit to its place, and the inverse layers undo them. -/
def Obligations.PermutationLayersMoveEachBit : Prop :=
  (∀ (s : Block) (i : Nat), i ≤ 62 → (pLayer64 s).getLsbD (16 * i % 63) = s.getLsbD i) ∧
    (∀ s : Block, (pLayer64 s).getLsbD 63 = s.getLsbD 63) ∧
    (∀ (s : Block) (j : Nat), j ≤ 62 → (pLayerInv64 s).getLsbD (4 * j % 63) = s.getLsbD j) ∧
    (∀ s : Block, pLayerInv64 (pLayer64 s) = s ∧ pLayer64 (pLayerInv64 s) = s) ∧
    (∀ (cfg : Config) (s : Byte) (i : Fin 8), (pLayer8 cfg s).getLsbD (cfg.miniPBox i).val = s.getLsbD i.val) ∧
    ∀ (cfg : Config) (s : Byte), pLayerInv8 cfg (pLayer8 cfg s) = s ∧ pLayer8 cfg (pLayerInv8 cfg s) = s

/-- R187: for every variant, every schedule of round keys and every block, DEC undoes ENC and ENC undoes DEC; and at the machine, with a
schedule loaded, a DECRYPT of the DOUT that an ENCRYPT left gives back the block that was encrypted, cut to the variant's block width, and
the other way round. -/
def Obligations.DecryptUndoesEncrypt : Prop :=
  (∀ (ks : List Block) (x : Block), dec64 ks (enc64 ks x) = x ∧ enc64 ks (dec64 ks x) = x) ∧
    (∀ (cfg : Config) (ks : List Byte) (x : Byte), decMini cfg ks (encMini cfg ks x) = x ∧ encMini cfg ks (decMini cfg ks x) = x) ∧
    ∀ s t u : State, s.ksCR ≠ 0#8 →
      ((exec .encrypt s = .next t → exec .decrypt { t with cur := { t.cur with din := doutOf t } } = .next u →
        doutOf u = (if s.ksCVar = .mini then s.cur.din &&& 0xFF#64 else s.cur.din)) ∧
      (exec .decrypt s = .next t → exec .encrypt { t with cur := { t.cur with din := doutOf t } } = .next u →
        doutOf u = (if s.ksCVar = .mini then s.cur.din &&& 0xFF#64 else s.cur.din)))

/-- Worked vectors of the round engine: 41_cipher.md R178, R183 and 95_test_vectors.md sections 2.2 to 2.5, the Mini ones in the reference
configuration of R9. -/
def Obligations.CipherVectorsAgree : Prop :=
  sBoxLayer64 0x0123456789ABCDEF#64 = 0xC56B90AD3EF84712#64 ∧ pLayer64 0xF#64 = 0x0001000100010001#64 ∧
    scheduleP80 0#80 4 = [0x0#64, 0xC000000000000000#64, 0x5000180000000001#64, 0x60000A0003000001#64] ∧
    enc64 (scheduleP80 0#80 32) 0#64 = 0x5579C1387B228445#64 ∧
    enc64 (scheduleP128 0#128 32) 0#64 = 0x96DB702A2E6900AF#64 ∧
    miniSchedule Config.reference 235#16 4 = [0x00#8, 0xD5#8, 0x31#8, 0x84#8] ∧
    encMini Config.reference (miniSchedule Config.reference 0#16 4) 0#8 = 0x43#8

/-! ## The multiplier -/

/-- R132: the closed form of GFMUL, for every p1, p2, every m >= 1 and every P: it is the remainder of the carry-less product of the masked
multiplicand by p2 on division by P*, so it is below 2^m and differs from the product by a multiple of P*. -/
def Obligations.GfMulHasTheClosedForm : Prop :=
  ∀ p1 p2 m p : Nat, 1 ≤ m →
    gfMul p1 p2 m p = gfClosedForm p1 p2 m p ∧ gfMul p1 p2 m p < 2 ^ m ∧
      ∃ q : Nat, clMul (bitLen p2) (p1 % 2 ^ m) p2 = clMul (bitLen q) (polyStar m p) q ^^^ gfMul p1 p2 m p

/-- R133: the combinational XOR tree, and its reduction-matrix form, equal GFMUL at the ports, for every degree the core accepts. -/
def Obligations.XorTreeEqualsGfMul : Prop :=
  ∀ (a b : GfWord) (m p : Nat), 1 ≤ m → m ≤ 16 →
    gfMulComb a.toNat b.toNat m p = gfMul a.toNat b.toNat m p ∧
      gfMulMatrix a.toNat b.toNat m p = gfMul a.toNat b.toNat m p

/-- R135: the iterative datapath equals GFMUL at the ports, for every degree the core accepts. -/
def Obligations.IterativeDatapathEqualsGfMul : Prop :=
  ∀ (a b : GfWord) (m p : Nat), 1 ≤ m → m ≤ 16 → (gfMulIter a b m p).toNat = gfMul a.toNat b.toNat m p

/-- R137: the algebraic laws of GFMUL inside the field. -/
def Obligations.GfMulObeysTheFieldLaws : Prop :=
  ∀ a b c m p : Nat, 1 ≤ m → a < 2 ^ m → b < 2 ^ m → c < 2 ^ m →
    gfMul a b m p = gfMul b a m p ∧ gfMul a 0 m p = 0 ∧ gfMul a 1 m p = a ∧
      gfMul (gfMul a b m p) c m p = gfMul a (gfMul b c m p) m p ∧
      gfMul a (b ^^^ c) m p = gfMul a b m p ^^^ gfMul a c m p ∧ gfMul a b m p < 2 ^ m

/-- R138, R136: outside the field the multiplicand is truncated and the multiplier is reduced, so GFMUL is not commutative there; and GFMUL
depends on P through P[m-1:0] only. -/
def Obligations.GfMulOutsideTheField : Prop :=
  (∀ p1 p2 m p : Nat, 1 ≤ m →
    gfMul p1 p2 m p = gfMul (p1 % 2 ^ m) p2 m p ∧
      gfMul p1 p2 m p = gfMul p1 (polyMod p2 m (polyStar m p)) m p ∧
      ∀ q : Nat, q % 2 ^ m = p % 2 ^ m → gfMul p1 p2 m q = gfMul p1 p2 m p) ∧
    gfMul 0b1000 1 3 0b1011 = 0 ∧ gfMul 1 0b1000 3 0b1011 = 0b011

/-- R143: the reduction constants of the MAC's default field; and the source's field scenario (95_test_vectors.md S1). -/
def Obligations.DefaultFieldConstantsAgree : Prop :=
  (List.range 15).map (fun k => reductionConstant 16 0x1100B (16 + k)) =
    [0x100B, 0x2016, 0x402C, 0x8058, 0x10BB, 0x2176, 0x42EC, 0x85D8, 0x1BBB, 0x3776, 0x6EEC, 0xDDD8, 0xABBB, 0x477D, 0x8EFA] ∧
    gfMul 0b011 0b101 3 0b1011 = 0b100

/-! ## The hash accumulator -/

/-- The hash accumulator is a polynomial in the hash key: from MAC_HASH = 0 in an open message with a well-formed field, MAC_CHUNK for each
chunk in turn completes each time and leaves MAC_HASH = the polynomial of the chunks at H, and MAC_TAG = MAC_HASH ^ MAC_GCTR (R233, R234;
R16, "Horner-scheme polynomial hash over message chunks in GF(2^m)"). -/
def Obligations.MacHashIsThePolynomialAtTheHashKey : Prop :=
  ∀ (cs : List Half) (s : State), s.macOpen = true → s.fieldValid = true → FieldContextOk s → s.macHash = 0#16 →
    ∃ t, absorbChunks cs s = .next t ∧ t.macHash.toNat = hashPolynomial s cs ∧
      (cs ≠ [] → t.macTag = t.macHash ^^^ s.macGctr ∧ t.err = false) ∧ t.macGctr = s.macGctr ∧ t.macH = s.macH ∧
      cipherContext t = cipherContext s ∧ fieldContext t = fieldContext s

/-- R242's corner case and R245: zero chunks before the first non-zero chunk do not show: from MAC_HASH = 0 they leave MAC_HASH = 0, so the
message continues to the same hash and tag. -/
def Obligations.LeadingZeroChunksDoNotShow : Prop :=
  ∀ (k : Nat) (c : Half) (cs : List Half) (s t u : State), s.macOpen = true → s.fieldValid = true → s.macHash = 0#16 →
    absorbChunks (List.replicate k 0#16 ++ c :: cs) s = .next t → absorbChunks (c :: cs) s = .next u →
    t.macHash = u.macHash ∧ t.macTag = u.macTag

/-- R231's and R242's corner case: with H = 0 every chunk gives MAC_HASH = 0 and MAC_TAG = MAC_GCTR. -/
def Obligations.ZeroHashKeyGivesTheKeystream : Prop :=
  ∀ s : State, s.macOpen = true → s.fieldValid = true → s.macH = 0#8 →
    ∃ t, exec .macChunk s = .next t ∧ t.macHash = 0#16 ∧ t.macTag = s.macGctr

/-! ## The reference datapath -/

/-- R345 and the FSMs of R182, R184, R186 and R133 to R135: from accept, the reference datapath reaches its result after exactly the
reference number of cycles, and not before (the datapath's cycle split is the model's reading, log 14). -/
def Obligations.DatapathTakesTheReferenceLatency : Prop :=
  ∀ s : State, CoreInv s → s.work.fsm = .ready →
    (runCycles Config.machine s (referenceLatency Config.machine s) s.work).fsm = .done ∧
      ∀ k, k < referenceLatency Config.machine s → (runCycles Config.machine s k s.work).fsm ≠ .done

/-- R182, R184, R186, R133 to R135: what the reference datapath has staged after the reference number of cycles is what the completion
step writes (log 14). -/
def Obligations.DatapathStagesTheResult : Prop :=
  ∀ (s t : State) (i : Instr) (w : Working), CoreInv s → s.work.fsm = .ready → decode s.cur.word = some i → errorOf i s = .ok →
    exec i s = .next t → w = runCycles Config.machine s (referenceLatency Config.machine s) s.work →
    (i = .gfMul → w.staged = t.gfR.setWidth 64) ∧
      ((i = .encrypt ∨ i = .decrypt) → w.staged = doutOf t) ∧
      (((∃ klen rounds, i = .keyLoadPresent klen rounds) ∨ ∃ rounds, i = .keyLoadMini rounds) → w.shadow = validSchedule t) ∧
      (i = .macInit → w.shadow = macKeys64 t ∧ w.staged = t.macH.setWidth 64) ∧
      (i = .macStart → w.staged = t.macGctr.setWidth 64) ∧
      (i = .macChunk → w.staged = t.macHash.setWidth 64)
end

