-- ==== Sys2Proof/Laws/State.lean ====
section
/-! SUPPORT. Laws/State.lean: for each named update of State, one lemma per field, true by rfl: what the update leaves in that field.
A proof about an update cites these and does not unfold it. -/

namespace Sys2Proof.Laws

open Sys2Proof.Machine

/-! ### completed -/

@[simp] theorem completed_key0 (s : State) : (completed s).key0 = s.key0 := rfl

@[simp] theorem completed_key1 (s : State) : (completed s).key1 = s.key1 := rfl

@[simp] theorem completed_key2 (s : State) : (completed s).key2 = s.key2 := rfl

@[simp] theorem completed_key3 (s : State) : (completed s).key3 = s.key3 := rfl

@[simp] theorem completed_din0 (s : State) : (completed s).din0 = s.din0 := rfl

@[simp] theorem completed_din1 (s : State) : (completed s).din1 = s.din1 := rfl

@[simp] theorem completed_dout0 (s : State) : (completed s).dout0 = s.dout0 := rfl

@[simp] theorem completed_dout1 (s : State) : (completed s).dout1 = s.dout1 := rfl

@[simp] theorem completed_gfA (s : State) : (completed s).gfA = s.gfA := rfl

@[simp] theorem completed_gfB (s : State) : (completed s).gfB = s.gfB := rfl

@[simp] theorem completed_gfR (s : State) : (completed s).gfR = s.gfR := rfl

@[simp] theorem completed_fieldDeg (s : State) : (completed s).fieldDeg = s.fieldDeg := rfl

@[simp] theorem completed_fieldPoly (s : State) : (completed s).fieldPoly = s.fieldPoly := rfl

@[simp] theorem completed_macIv (s : State) : (completed s).macIv = s.macIv := rfl

@[simp] theorem completed_macDin (s : State) : (completed s).macDin = s.macDin := rfl

@[simp] theorem completed_macTag (s : State) : (completed s).macTag = s.macTag := rfl

@[simp] theorem completed_macHash (s : State) : (completed s).macHash = s.macHash := rfl

@[simp] theorem completed_err (s : State) : (completed s).err = false := rfl

@[simp] theorem completed_ovr (s : State) : (completed s).ovr = s.ovr := rfl

@[simp] theorem completed_fieldValid (s : State) : (completed s).fieldValid = s.fieldValid := rfl

@[simp] theorem completed_macOpen (s : State) : (completed s).macOpen = s.macOpen := rfl

@[simp] theorem completed_errCode (s : State) : (completed s).errCode = .ok := rfl

@[simp] theorem completed_seq (s : State) : (completed s).seq = .idle := rfl

@[simp] theorem completed_cur (s : State) : (completed s).cur = s.cur := rfl

@[simp] theorem completed_ksC (s : State) : (completed s).ksC = s.ksC := rfl

@[simp] theorem completed_ksCR (s : State) : (completed s).ksCR = s.ksCR := rfl

@[simp] theorem completed_ksCVar (s : State) : (completed s).ksCVar = s.ksCVar := rfl

@[simp] theorem completed_ksMac (s : State) : (completed s).ksMac = s.ksMac := rfl

@[simp] theorem completed_ksMacR (s : State) : (completed s).ksMacR = s.ksMacR := rfl

@[simp] theorem completed_macH (s : State) : (completed s).macH = s.macH := rfl

@[simp] theorem completed_macGctr (s : State) : (completed s).macGctr = s.macGctr := rfl

@[simp] theorem completed_work (s : State) : (completed s).work = s.work := rfl

@[simp] theorem completed_rst (s : State) : (completed s).rst = s.rst := rfl

@[simp] theorem completed_env (s : State) : (completed s).env = s.env := rfl

@[simp] theorem completed_busResp (s : State) : (completed s).busResp = s.busResp := rfl

@[simp] theorem completed_lostWrites (s : State) : (completed s).lostWrites = s.lostWrites := rfl

/-! ### failed -/

@[simp] theorem failed_key0 (e : ErrCode) (s : State) : (failed e s).key0 = s.key0 := rfl

@[simp] theorem failed_key1 (e : ErrCode) (s : State) : (failed e s).key1 = s.key1 := rfl

@[simp] theorem failed_key2 (e : ErrCode) (s : State) : (failed e s).key2 = s.key2 := rfl

@[simp] theorem failed_key3 (e : ErrCode) (s : State) : (failed e s).key3 = s.key3 := rfl

@[simp] theorem failed_din0 (e : ErrCode) (s : State) : (failed e s).din0 = s.din0 := rfl

@[simp] theorem failed_din1 (e : ErrCode) (s : State) : (failed e s).din1 = s.din1 := rfl

@[simp] theorem failed_dout0 (e : ErrCode) (s : State) : (failed e s).dout0 = s.dout0 := rfl

@[simp] theorem failed_dout1 (e : ErrCode) (s : State) : (failed e s).dout1 = s.dout1 := rfl

@[simp] theorem failed_gfA (e : ErrCode) (s : State) : (failed e s).gfA = s.gfA := rfl

@[simp] theorem failed_gfB (e : ErrCode) (s : State) : (failed e s).gfB = s.gfB := rfl

@[simp] theorem failed_gfR (e : ErrCode) (s : State) : (failed e s).gfR = s.gfR := rfl

@[simp] theorem failed_fieldDeg (e : ErrCode) (s : State) : (failed e s).fieldDeg = s.fieldDeg := rfl

@[simp] theorem failed_fieldPoly (e : ErrCode) (s : State) : (failed e s).fieldPoly = s.fieldPoly := rfl

@[simp] theorem failed_macIv (e : ErrCode) (s : State) : (failed e s).macIv = s.macIv := rfl

@[simp] theorem failed_macDin (e : ErrCode) (s : State) : (failed e s).macDin = s.macDin := rfl

@[simp] theorem failed_macTag (e : ErrCode) (s : State) : (failed e s).macTag = s.macTag := rfl

@[simp] theorem failed_macHash (e : ErrCode) (s : State) : (failed e s).macHash = s.macHash := rfl

@[simp] theorem failed_err (e : ErrCode) (s : State) : (failed e s).err = true := rfl

@[simp] theorem failed_ovr (e : ErrCode) (s : State) : (failed e s).ovr = s.ovr := rfl

@[simp] theorem failed_fieldValid (e : ErrCode) (s : State) : (failed e s).fieldValid = s.fieldValid := rfl

@[simp] theorem failed_macOpen (e : ErrCode) (s : State) : (failed e s).macOpen = s.macOpen := rfl

@[simp] theorem failed_errCode (e : ErrCode) (s : State) : (failed e s).errCode = e := rfl

@[simp] theorem failed_seq (e : ErrCode) (s : State) : (failed e s).seq = .idle := rfl

@[simp] theorem failed_cur (e : ErrCode) (s : State) : (failed e s).cur = s.cur := rfl

@[simp] theorem failed_ksC (e : ErrCode) (s : State) : (failed e s).ksC = s.ksC := rfl

@[simp] theorem failed_ksCR (e : ErrCode) (s : State) : (failed e s).ksCR = s.ksCR := rfl

@[simp] theorem failed_ksCVar (e : ErrCode) (s : State) : (failed e s).ksCVar = s.ksCVar := rfl

@[simp] theorem failed_ksMac (e : ErrCode) (s : State) : (failed e s).ksMac = s.ksMac := rfl

@[simp] theorem failed_ksMacR (e : ErrCode) (s : State) : (failed e s).ksMacR = s.ksMacR := rfl

@[simp] theorem failed_macH (e : ErrCode) (s : State) : (failed e s).macH = s.macH := rfl

@[simp] theorem failed_macGctr (e : ErrCode) (s : State) : (failed e s).macGctr = s.macGctr := rfl

@[simp] theorem failed_work (e : ErrCode) (s : State) : (failed e s).work = s.work := rfl

@[simp] theorem failed_rst (e : ErrCode) (s : State) : (failed e s).rst = s.rst := rfl

@[simp] theorem failed_env (e : ErrCode) (s : State) : (failed e s).env = s.env := rfl

@[simp] theorem failed_busResp (e : ErrCode) (s : State) : (failed e s).busResp = s.busResp := rfl

@[simp] theorem failed_lostWrites (e : ErrCode) (s : State) : (failed e s).lostWrites = s.lostWrites := rfl

/-! ### writeDout -/

@[simp] theorem writeDout_key0 (v : Block) (s : State) : (writeDout v s).key0 = s.key0 := rfl

@[simp] theorem writeDout_key1 (v : Block) (s : State) : (writeDout v s).key1 = s.key1 := rfl

@[simp] theorem writeDout_key2 (v : Block) (s : State) : (writeDout v s).key2 = s.key2 := rfl

@[simp] theorem writeDout_key3 (v : Block) (s : State) : (writeDout v s).key3 = s.key3 := rfl

@[simp] theorem writeDout_din0 (v : Block) (s : State) : (writeDout v s).din0 = s.din0 := rfl

@[simp] theorem writeDout_din1 (v : Block) (s : State) : (writeDout v s).din1 = s.din1 := rfl

@[simp] theorem writeDout_dout0 (v : Block) (s : State) : (writeDout v s).dout0 = v.extractLsb' 0 32 := rfl

@[simp] theorem writeDout_dout1 (v : Block) (s : State) : (writeDout v s).dout1 = v.extractLsb' 32 32 := rfl

@[simp] theorem writeDout_gfA (v : Block) (s : State) : (writeDout v s).gfA = s.gfA := rfl

@[simp] theorem writeDout_gfB (v : Block) (s : State) : (writeDout v s).gfB = s.gfB := rfl

@[simp] theorem writeDout_gfR (v : Block) (s : State) : (writeDout v s).gfR = s.gfR := rfl

@[simp] theorem writeDout_fieldDeg (v : Block) (s : State) : (writeDout v s).fieldDeg = s.fieldDeg := rfl

@[simp] theorem writeDout_fieldPoly (v : Block) (s : State) : (writeDout v s).fieldPoly = s.fieldPoly := rfl

@[simp] theorem writeDout_macIv (v : Block) (s : State) : (writeDout v s).macIv = s.macIv := rfl

@[simp] theorem writeDout_macDin (v : Block) (s : State) : (writeDout v s).macDin = s.macDin := rfl

@[simp] theorem writeDout_macTag (v : Block) (s : State) : (writeDout v s).macTag = s.macTag := rfl

@[simp] theorem writeDout_macHash (v : Block) (s : State) : (writeDout v s).macHash = s.macHash := rfl

@[simp] theorem writeDout_err (v : Block) (s : State) : (writeDout v s).err = s.err := rfl

@[simp] theorem writeDout_ovr (v : Block) (s : State) : (writeDout v s).ovr = s.ovr := rfl

@[simp] theorem writeDout_fieldValid (v : Block) (s : State) : (writeDout v s).fieldValid = s.fieldValid := rfl

@[simp] theorem writeDout_macOpen (v : Block) (s : State) : (writeDout v s).macOpen = s.macOpen := rfl

@[simp] theorem writeDout_errCode (v : Block) (s : State) : (writeDout v s).errCode = s.errCode := rfl

@[simp] theorem writeDout_seq (v : Block) (s : State) : (writeDout v s).seq = s.seq := rfl

@[simp] theorem writeDout_cur (v : Block) (s : State) : (writeDout v s).cur = s.cur := rfl

@[simp] theorem writeDout_ksC (v : Block) (s : State) : (writeDout v s).ksC = s.ksC := rfl

@[simp] theorem writeDout_ksCR (v : Block) (s : State) : (writeDout v s).ksCR = s.ksCR := rfl

@[simp] theorem writeDout_ksCVar (v : Block) (s : State) : (writeDout v s).ksCVar = s.ksCVar := rfl

@[simp] theorem writeDout_ksMac (v : Block) (s : State) : (writeDout v s).ksMac = s.ksMac := rfl

@[simp] theorem writeDout_ksMacR (v : Block) (s : State) : (writeDout v s).ksMacR = s.ksMacR := rfl

@[simp] theorem writeDout_macH (v : Block) (s : State) : (writeDout v s).macH = s.macH := rfl

@[simp] theorem writeDout_macGctr (v : Block) (s : State) : (writeDout v s).macGctr = s.macGctr := rfl

@[simp] theorem writeDout_work (v : Block) (s : State) : (writeDout v s).work = s.work := rfl

@[simp] theorem writeDout_rst (v : Block) (s : State) : (writeDout v s).rst = s.rst := rfl

@[simp] theorem writeDout_env (v : Block) (s : State) : (writeDout v s).env = s.env := rfl

@[simp] theorem writeDout_busResp (v : Block) (s : State) : (writeDout v s).busResp = s.busResp := rfl

@[simp] theorem writeDout_lostWrites (v : Block) (s : State) : (writeDout v s).lostWrites = s.lostWrites := rfl

/-! ### installSchedule -/

@[simp] theorem installSchedule_key0 (v : Variant) (ks : List Block) (s : State) : (installSchedule v ks s).key0 = s.key0 := rfl

@[simp] theorem installSchedule_key1 (v : Variant) (ks : List Block) (s : State) : (installSchedule v ks s).key1 = s.key1 := rfl

@[simp] theorem installSchedule_key2 (v : Variant) (ks : List Block) (s : State) : (installSchedule v ks s).key2 = s.key2 := rfl

@[simp] theorem installSchedule_key3 (v : Variant) (ks : List Block) (s : State) : (installSchedule v ks s).key3 = s.key3 := rfl

@[simp] theorem installSchedule_din0 (v : Variant) (ks : List Block) (s : State) : (installSchedule v ks s).din0 = s.din0 := rfl

@[simp] theorem installSchedule_din1 (v : Variant) (ks : List Block) (s : State) : (installSchedule v ks s).din1 = s.din1 := rfl

@[simp] theorem installSchedule_dout0 (v : Variant) (ks : List Block) (s : State) : (installSchedule v ks s).dout0 = s.dout0 := rfl

@[simp] theorem installSchedule_dout1 (v : Variant) (ks : List Block) (s : State) : (installSchedule v ks s).dout1 = s.dout1 := rfl

@[simp] theorem installSchedule_gfA (v : Variant) (ks : List Block) (s : State) : (installSchedule v ks s).gfA = s.gfA := rfl

@[simp] theorem installSchedule_gfB (v : Variant) (ks : List Block) (s : State) : (installSchedule v ks s).gfB = s.gfB := rfl

@[simp] theorem installSchedule_gfR (v : Variant) (ks : List Block) (s : State) : (installSchedule v ks s).gfR = s.gfR := rfl

@[simp] theorem installSchedule_fieldDeg (v : Variant) (ks : List Block) (s : State) : (installSchedule v ks s).fieldDeg = s.fieldDeg := rfl

@[simp] theorem installSchedule_fieldPoly (v : Variant) (ks : List Block) (s : State) : (installSchedule v ks s).fieldPoly = s.fieldPoly := rfl

@[simp] theorem installSchedule_macIv (v : Variant) (ks : List Block) (s : State) : (installSchedule v ks s).macIv = s.macIv := rfl

@[simp] theorem installSchedule_macDin (v : Variant) (ks : List Block) (s : State) : (installSchedule v ks s).macDin = s.macDin := rfl

@[simp] theorem installSchedule_macTag (v : Variant) (ks : List Block) (s : State) : (installSchedule v ks s).macTag = s.macTag := rfl

@[simp] theorem installSchedule_macHash (v : Variant) (ks : List Block) (s : State) : (installSchedule v ks s).macHash = s.macHash := rfl

@[simp] theorem installSchedule_err (v : Variant) (ks : List Block) (s : State) : (installSchedule v ks s).err = s.err := rfl

@[simp] theorem installSchedule_ovr (v : Variant) (ks : List Block) (s : State) : (installSchedule v ks s).ovr = s.ovr := rfl

@[simp] theorem installSchedule_fieldValid (v : Variant) (ks : List Block) (s : State) : (installSchedule v ks s).fieldValid = s.fieldValid := rfl

@[simp] theorem installSchedule_macOpen (v : Variant) (ks : List Block) (s : State) : (installSchedule v ks s).macOpen = s.macOpen := rfl

@[simp] theorem installSchedule_errCode (v : Variant) (ks : List Block) (s : State) : (installSchedule v ks s).errCode = s.errCode := rfl

@[simp] theorem installSchedule_seq (v : Variant) (ks : List Block) (s : State) : (installSchedule v ks s).seq = s.seq := rfl

@[simp] theorem installSchedule_cur (v : Variant) (ks : List Block) (s : State) : (installSchedule v ks s).cur = s.cur := rfl

@[simp] theorem installSchedule_ksC (v : Variant) (ks : List Block) (s : State) : (installSchedule v ks s).ksC = fileWrite s.ksC ks := rfl

@[simp] theorem installSchedule_ksCR (v : Variant) (ks : List Block) (s : State) : (installSchedule v ks s).ksCR = BitVec.ofNat 8 ks.length := rfl

@[simp] theorem installSchedule_ksCVar (v : Variant) (ks : List Block) (s : State) : (installSchedule v ks s).ksCVar = v := rfl

@[simp] theorem installSchedule_ksMac (v : Variant) (ks : List Block) (s : State) : (installSchedule v ks s).ksMac = s.ksMac := rfl

@[simp] theorem installSchedule_ksMacR (v : Variant) (ks : List Block) (s : State) : (installSchedule v ks s).ksMacR = s.ksMacR := rfl

@[simp] theorem installSchedule_macH (v : Variant) (ks : List Block) (s : State) : (installSchedule v ks s).macH = s.macH := rfl

@[simp] theorem installSchedule_macGctr (v : Variant) (ks : List Block) (s : State) : (installSchedule v ks s).macGctr = s.macGctr := rfl

@[simp] theorem installSchedule_work (v : Variant) (ks : List Block) (s : State) : (installSchedule v ks s).work = s.work := rfl

@[simp] theorem installSchedule_rst (v : Variant) (ks : List Block) (s : State) : (installSchedule v ks s).rst = s.rst := rfl

@[simp] theorem installSchedule_env (v : Variant) (ks : List Block) (s : State) : (installSchedule v ks s).env = s.env := rfl

@[simp] theorem installSchedule_busResp (v : Variant) (ks : List Block) (s : State) : (installSchedule v ks s).busResp = s.busResp := rfl

@[simp] theorem installSchedule_lostWrites (v : Variant) (ks : List Block) (s : State) : (installSchedule v ks s).lostWrites = s.lostWrites := rfl

/-! ### accept -/

@[simp] theorem accept_key0 (w : Word) (s : State) : (accept w s).key0 = s.key0 := rfl

@[simp] theorem accept_key1 (w : Word) (s : State) : (accept w s).key1 = s.key1 := rfl

@[simp] theorem accept_key2 (w : Word) (s : State) : (accept w s).key2 = s.key2 := rfl

@[simp] theorem accept_key3 (w : Word) (s : State) : (accept w s).key3 = s.key3 := rfl

@[simp] theorem accept_din0 (w : Word) (s : State) : (accept w s).din0 = s.din0 := rfl

@[simp] theorem accept_din1 (w : Word) (s : State) : (accept w s).din1 = s.din1 := rfl

@[simp] theorem accept_dout0 (w : Word) (s : State) : (accept w s).dout0 = s.dout0 := rfl

@[simp] theorem accept_dout1 (w : Word) (s : State) : (accept w s).dout1 = s.dout1 := rfl

@[simp] theorem accept_gfA (w : Word) (s : State) : (accept w s).gfA = s.gfA := rfl

@[simp] theorem accept_gfB (w : Word) (s : State) : (accept w s).gfB = s.gfB := rfl

@[simp] theorem accept_gfR (w : Word) (s : State) : (accept w s).gfR = s.gfR := rfl

@[simp] theorem accept_fieldDeg (w : Word) (s : State) : (accept w s).fieldDeg = s.fieldDeg := rfl

@[simp] theorem accept_fieldPoly (w : Word) (s : State) : (accept w s).fieldPoly = s.fieldPoly := rfl

@[simp] theorem accept_macIv (w : Word) (s : State) : (accept w s).macIv = s.macIv := rfl

@[simp] theorem accept_macDin (w : Word) (s : State) : (accept w s).macDin = s.macDin := rfl

@[simp] theorem accept_macTag (w : Word) (s : State) : (accept w s).macTag = s.macTag := rfl

@[simp] theorem accept_macHash (w : Word) (s : State) : (accept w s).macHash = s.macHash := rfl

@[simp] theorem accept_err (w : Word) (s : State) : (accept w s).err = s.err := rfl

@[simp] theorem accept_ovr (w : Word) (s : State) : (accept w s).ovr = s.ovr := rfl

@[simp] theorem accept_fieldValid (w : Word) (s : State) : (accept w s).fieldValid = s.fieldValid := rfl

@[simp] theorem accept_macOpen (w : Word) (s : State) : (accept w s).macOpen = s.macOpen := rfl

@[simp] theorem accept_errCode (w : Word) (s : State) : (accept w s).errCode = s.errCode := rfl

@[simp] theorem accept_seq (w : Word) (s : State) : (accept w s).seq = .busy := rfl

@[simp] theorem accept_cur (w : Word) (s : State) : (accept w s).cur = snapshot w s := rfl

@[simp] theorem accept_ksC (w : Word) (s : State) : (accept w s).ksC = s.ksC := rfl

@[simp] theorem accept_ksCR (w : Word) (s : State) : (accept w s).ksCR = s.ksCR := rfl

@[simp] theorem accept_ksCVar (w : Word) (s : State) : (accept w s).ksCVar = s.ksCVar := rfl

@[simp] theorem accept_ksMac (w : Word) (s : State) : (accept w s).ksMac = s.ksMac := rfl

@[simp] theorem accept_ksMacR (w : Word) (s : State) : (accept w s).ksMacR = s.ksMacR := rfl

@[simp] theorem accept_macH (w : Word) (s : State) : (accept w s).macH = s.macH := rfl

@[simp] theorem accept_macGctr (w : Word) (s : State) : (accept w s).macGctr = s.macGctr := rfl

@[simp] theorem accept_work (w : Word) (s : State) : (accept w s).work = startUnits s.work := rfl

@[simp] theorem accept_rst (w : Word) (s : State) : (accept w s).rst = s.rst := rfl

@[simp] theorem accept_env (w : Word) (s : State) : (accept w s).env = s.env := rfl

@[simp] theorem accept_busResp (w : Word) (s : State) : (accept w s).busResp = s.busResp := rfl

@[simp] theorem accept_lostWrites (w : Word) (s : State) : (accept w s).lostWrites = s.lostWrites := rfl

/-! ### respond -/

@[simp] theorem respond_key0 (r : BusResponse) (s : State) : (respond r s).key0 = s.key0 := rfl

@[simp] theorem respond_key1 (r : BusResponse) (s : State) : (respond r s).key1 = s.key1 := rfl

@[simp] theorem respond_key2 (r : BusResponse) (s : State) : (respond r s).key2 = s.key2 := rfl

@[simp] theorem respond_key3 (r : BusResponse) (s : State) : (respond r s).key3 = s.key3 := rfl

@[simp] theorem respond_din0 (r : BusResponse) (s : State) : (respond r s).din0 = s.din0 := rfl

@[simp] theorem respond_din1 (r : BusResponse) (s : State) : (respond r s).din1 = s.din1 := rfl

@[simp] theorem respond_dout0 (r : BusResponse) (s : State) : (respond r s).dout0 = s.dout0 := rfl

@[simp] theorem respond_dout1 (r : BusResponse) (s : State) : (respond r s).dout1 = s.dout1 := rfl

@[simp] theorem respond_gfA (r : BusResponse) (s : State) : (respond r s).gfA = s.gfA := rfl

@[simp] theorem respond_gfB (r : BusResponse) (s : State) : (respond r s).gfB = s.gfB := rfl

@[simp] theorem respond_gfR (r : BusResponse) (s : State) : (respond r s).gfR = s.gfR := rfl

@[simp] theorem respond_fieldDeg (r : BusResponse) (s : State) : (respond r s).fieldDeg = s.fieldDeg := rfl

@[simp] theorem respond_fieldPoly (r : BusResponse) (s : State) : (respond r s).fieldPoly = s.fieldPoly := rfl

@[simp] theorem respond_macIv (r : BusResponse) (s : State) : (respond r s).macIv = s.macIv := rfl

@[simp] theorem respond_macDin (r : BusResponse) (s : State) : (respond r s).macDin = s.macDin := rfl

@[simp] theorem respond_macTag (r : BusResponse) (s : State) : (respond r s).macTag = s.macTag := rfl

@[simp] theorem respond_macHash (r : BusResponse) (s : State) : (respond r s).macHash = s.macHash := rfl

@[simp] theorem respond_err (r : BusResponse) (s : State) : (respond r s).err = s.err := rfl

@[simp] theorem respond_ovr (r : BusResponse) (s : State) : (respond r s).ovr = s.ovr := rfl

@[simp] theorem respond_fieldValid (r : BusResponse) (s : State) : (respond r s).fieldValid = s.fieldValid := rfl

@[simp] theorem respond_macOpen (r : BusResponse) (s : State) : (respond r s).macOpen = s.macOpen := rfl

@[simp] theorem respond_errCode (r : BusResponse) (s : State) : (respond r s).errCode = s.errCode := rfl

@[simp] theorem respond_seq (r : BusResponse) (s : State) : (respond r s).seq = s.seq := rfl

@[simp] theorem respond_cur (r : BusResponse) (s : State) : (respond r s).cur = s.cur := rfl

@[simp] theorem respond_ksC (r : BusResponse) (s : State) : (respond r s).ksC = s.ksC := rfl

@[simp] theorem respond_ksCR (r : BusResponse) (s : State) : (respond r s).ksCR = s.ksCR := rfl

@[simp] theorem respond_ksCVar (r : BusResponse) (s : State) : (respond r s).ksCVar = s.ksCVar := rfl

@[simp] theorem respond_ksMac (r : BusResponse) (s : State) : (respond r s).ksMac = s.ksMac := rfl

@[simp] theorem respond_ksMacR (r : BusResponse) (s : State) : (respond r s).ksMacR = s.ksMacR := rfl

@[simp] theorem respond_macH (r : BusResponse) (s : State) : (respond r s).macH = s.macH := rfl

@[simp] theorem respond_macGctr (r : BusResponse) (s : State) : (respond r s).macGctr = s.macGctr := rfl

@[simp] theorem respond_work (r : BusResponse) (s : State) : (respond r s).work = s.work := rfl

@[simp] theorem respond_rst (r : BusResponse) (s : State) : (respond r s).rst = s.rst := rfl

@[simp] theorem respond_env (r : BusResponse) (s : State) : (respond r s).env = s.env := rfl

@[simp] theorem respond_busResp (r : BusResponse) (s : State) : (respond r s).busResp = some r := rfl

@[simp] theorem respond_lostWrites (r : BusResponse) (s : State) : (respond r s).lostWrites = s.lostWrites := rfl

/-! ### lostWrite -/

@[simp] theorem lostWrite_key0 (s : State) : (lostWrite s).key0 = s.key0 := rfl

@[simp] theorem lostWrite_key1 (s : State) : (lostWrite s).key1 = s.key1 := rfl

@[simp] theorem lostWrite_key2 (s : State) : (lostWrite s).key2 = s.key2 := rfl

@[simp] theorem lostWrite_key3 (s : State) : (lostWrite s).key3 = s.key3 := rfl

@[simp] theorem lostWrite_din0 (s : State) : (lostWrite s).din0 = s.din0 := rfl

@[simp] theorem lostWrite_din1 (s : State) : (lostWrite s).din1 = s.din1 := rfl

@[simp] theorem lostWrite_dout0 (s : State) : (lostWrite s).dout0 = s.dout0 := rfl

@[simp] theorem lostWrite_dout1 (s : State) : (lostWrite s).dout1 = s.dout1 := rfl

@[simp] theorem lostWrite_gfA (s : State) : (lostWrite s).gfA = s.gfA := rfl

@[simp] theorem lostWrite_gfB (s : State) : (lostWrite s).gfB = s.gfB := rfl

@[simp] theorem lostWrite_gfR (s : State) : (lostWrite s).gfR = s.gfR := rfl

@[simp] theorem lostWrite_fieldDeg (s : State) : (lostWrite s).fieldDeg = s.fieldDeg := rfl

@[simp] theorem lostWrite_fieldPoly (s : State) : (lostWrite s).fieldPoly = s.fieldPoly := rfl

@[simp] theorem lostWrite_macIv (s : State) : (lostWrite s).macIv = s.macIv := rfl

@[simp] theorem lostWrite_macDin (s : State) : (lostWrite s).macDin = s.macDin := rfl

@[simp] theorem lostWrite_macTag (s : State) : (lostWrite s).macTag = s.macTag := rfl

@[simp] theorem lostWrite_macHash (s : State) : (lostWrite s).macHash = s.macHash := rfl

@[simp] theorem lostWrite_err (s : State) : (lostWrite s).err = s.err := rfl

@[simp] theorem lostWrite_ovr (s : State) : (lostWrite s).ovr = s.ovr := rfl

@[simp] theorem lostWrite_fieldValid (s : State) : (lostWrite s).fieldValid = s.fieldValid := rfl

@[simp] theorem lostWrite_macOpen (s : State) : (lostWrite s).macOpen = s.macOpen := rfl

@[simp] theorem lostWrite_errCode (s : State) : (lostWrite s).errCode = s.errCode := rfl

@[simp] theorem lostWrite_seq (s : State) : (lostWrite s).seq = s.seq := rfl

@[simp] theorem lostWrite_cur (s : State) : (lostWrite s).cur = s.cur := rfl

@[simp] theorem lostWrite_ksC (s : State) : (lostWrite s).ksC = s.ksC := rfl

@[simp] theorem lostWrite_ksCR (s : State) : (lostWrite s).ksCR = s.ksCR := rfl

@[simp] theorem lostWrite_ksCVar (s : State) : (lostWrite s).ksCVar = s.ksCVar := rfl

@[simp] theorem lostWrite_ksMac (s : State) : (lostWrite s).ksMac = s.ksMac := rfl

@[simp] theorem lostWrite_ksMacR (s : State) : (lostWrite s).ksMacR = s.ksMacR := rfl

@[simp] theorem lostWrite_macH (s : State) : (lostWrite s).macH = s.macH := rfl

@[simp] theorem lostWrite_macGctr (s : State) : (lostWrite s).macGctr = s.macGctr := rfl

@[simp] theorem lostWrite_work (s : State) : (lostWrite s).work = s.work := rfl

@[simp] theorem lostWrite_rst (s : State) : (lostWrite s).rst = s.rst := rfl

@[simp] theorem lostWrite_env (s : State) : (lostWrite s).env = s.env := rfl

@[simp] theorem lostWrite_busResp (s : State) : (lostWrite s).busResp = some (.write (Config.lostWriteStatus s.lostWrites)) := rfl

@[simp] theorem lostWrite_lostWrites (s : State) : (lostWrite s).lostWrites = s.lostWrites + 1 := rfl

/-! ### placeCommand -/

@[simp] theorem placeCommand_key0 (w : Word) (s : State) : (placeCommand w s).key0 = s.key0 := rfl

@[simp] theorem placeCommand_key1 (w : Word) (s : State) : (placeCommand w s).key1 = s.key1 := rfl

@[simp] theorem placeCommand_key2 (w : Word) (s : State) : (placeCommand w s).key2 = s.key2 := rfl

@[simp] theorem placeCommand_key3 (w : Word) (s : State) : (placeCommand w s).key3 = s.key3 := rfl

@[simp] theorem placeCommand_din0 (w : Word) (s : State) : (placeCommand w s).din0 = s.din0 := rfl

@[simp] theorem placeCommand_din1 (w : Word) (s : State) : (placeCommand w s).din1 = s.din1 := rfl

@[simp] theorem placeCommand_dout0 (w : Word) (s : State) : (placeCommand w s).dout0 = s.dout0 := rfl

@[simp] theorem placeCommand_dout1 (w : Word) (s : State) : (placeCommand w s).dout1 = s.dout1 := rfl

@[simp] theorem placeCommand_gfA (w : Word) (s : State) : (placeCommand w s).gfA = s.gfA := rfl

@[simp] theorem placeCommand_gfB (w : Word) (s : State) : (placeCommand w s).gfB = s.gfB := rfl

@[simp] theorem placeCommand_gfR (w : Word) (s : State) : (placeCommand w s).gfR = s.gfR := rfl

@[simp] theorem placeCommand_fieldDeg (w : Word) (s : State) : (placeCommand w s).fieldDeg = s.fieldDeg := rfl

@[simp] theorem placeCommand_fieldPoly (w : Word) (s : State) : (placeCommand w s).fieldPoly = s.fieldPoly := rfl

@[simp] theorem placeCommand_macIv (w : Word) (s : State) : (placeCommand w s).macIv = s.macIv := rfl

@[simp] theorem placeCommand_macDin (w : Word) (s : State) : (placeCommand w s).macDin = s.macDin := rfl

@[simp] theorem placeCommand_macTag (w : Word) (s : State) : (placeCommand w s).macTag = s.macTag := rfl

@[simp] theorem placeCommand_macHash (w : Word) (s : State) : (placeCommand w s).macHash = s.macHash := rfl

@[simp] theorem placeCommand_err (w : Word) (s : State) : (placeCommand w s).err = s.err := rfl

@[simp] theorem placeCommand_ovr (w : Word) (s : State) : (placeCommand w s).ovr = s.ovr := rfl

@[simp] theorem placeCommand_fieldValid (w : Word) (s : State) : (placeCommand w s).fieldValid = s.fieldValid := rfl

@[simp] theorem placeCommand_macOpen (w : Word) (s : State) : (placeCommand w s).macOpen = s.macOpen := rfl

@[simp] theorem placeCommand_errCode (w : Word) (s : State) : (placeCommand w s).errCode = s.errCode := rfl

@[simp] theorem placeCommand_seq (w : Word) (s : State) : (placeCommand w s).seq = .busy := rfl

@[simp] theorem placeCommand_cur (w : Word) (s : State) : (placeCommand w s).cur = snapshot w s := rfl

@[simp] theorem placeCommand_ksC (w : Word) (s : State) : (placeCommand w s).ksC = s.ksC := rfl

@[simp] theorem placeCommand_ksCR (w : Word) (s : State) : (placeCommand w s).ksCR = s.ksCR := rfl

@[simp] theorem placeCommand_ksCVar (w : Word) (s : State) : (placeCommand w s).ksCVar = s.ksCVar := rfl

@[simp] theorem placeCommand_ksMac (w : Word) (s : State) : (placeCommand w s).ksMac = s.ksMac := rfl

@[simp] theorem placeCommand_ksMacR (w : Word) (s : State) : (placeCommand w s).ksMacR = s.ksMacR := rfl

@[simp] theorem placeCommand_macH (w : Word) (s : State) : (placeCommand w s).macH = s.macH := rfl

@[simp] theorem placeCommand_macGctr (w : Word) (s : State) : (placeCommand w s).macGctr = s.macGctr := rfl

@[simp] theorem placeCommand_work (w : Word) (s : State) : (placeCommand w s).work = startUnits s.work := rfl

@[simp] theorem placeCommand_rst (w : Word) (s : State) : (placeCommand w s).rst = false := rfl

@[simp] theorem placeCommand_env (w : Word) (s : State) : (placeCommand w s).env = .complete :: s.env := rfl

@[simp] theorem placeCommand_busResp (w : Word) (s : State) : (placeCommand w s).busResp = s.busResp := rfl

@[simp] theorem placeCommand_lostWrites (w : Word) (s : State) : (placeCommand w s).lostWrites = s.lostWrites := rfl

/-! ### resetValues -/

@[simp] theorem resetValues_key0 (level : Bool) (s : State) : (resetValues level s).key0 = 0 := rfl

@[simp] theorem resetValues_key1 (level : Bool) (s : State) : (resetValues level s).key1 = 0 := rfl

@[simp] theorem resetValues_key2 (level : Bool) (s : State) : (resetValues level s).key2 = 0 := rfl

@[simp] theorem resetValues_key3 (level : Bool) (s : State) : (resetValues level s).key3 = 0 := rfl

@[simp] theorem resetValues_din0 (level : Bool) (s : State) : (resetValues level s).din0 = 0 := rfl

@[simp] theorem resetValues_din1 (level : Bool) (s : State) : (resetValues level s).din1 = 0 := rfl

@[simp] theorem resetValues_dout0 (level : Bool) (s : State) : (resetValues level s).dout0 = 0 := rfl

@[simp] theorem resetValues_dout1 (level : Bool) (s : State) : (resetValues level s).dout1 = 0 := rfl

@[simp] theorem resetValues_gfA (level : Bool) (s : State) : (resetValues level s).gfA = 0 := rfl

@[simp] theorem resetValues_gfB (level : Bool) (s : State) : (resetValues level s).gfB = 0 := rfl

@[simp] theorem resetValues_gfR (level : Bool) (s : State) : (resetValues level s).gfR = 0 := rfl

@[simp] theorem resetValues_fieldDeg (level : Bool) (s : State) : (resetValues level s).fieldDeg = 0 := rfl

@[simp] theorem resetValues_fieldPoly (level : Bool) (s : State) : (resetValues level s).fieldPoly = 0 := rfl

@[simp] theorem resetValues_macIv (level : Bool) (s : State) : (resetValues level s).macIv = 0 := rfl

@[simp] theorem resetValues_macDin (level : Bool) (s : State) : (resetValues level s).macDin = 0 := rfl

@[simp] theorem resetValues_macTag (level : Bool) (s : State) : (resetValues level s).macTag = 0 := rfl

@[simp] theorem resetValues_macHash (level : Bool) (s : State) : (resetValues level s).macHash = 0 := rfl

@[simp] theorem resetValues_err (level : Bool) (s : State) : (resetValues level s).err = false := rfl

@[simp] theorem resetValues_ovr (level : Bool) (s : State) : (resetValues level s).ovr = false := rfl

@[simp] theorem resetValues_fieldValid (level : Bool) (s : State) : (resetValues level s).fieldValid = false := rfl

@[simp] theorem resetValues_macOpen (level : Bool) (s : State) : (resetValues level s).macOpen = false := rfl

@[simp] theorem resetValues_errCode (level : Bool) (s : State) : (resetValues level s).errCode = .ok := rfl

@[simp] theorem resetValues_seq (level : Bool) (s : State) : (resetValues level s).seq = .idle := rfl

@[simp] theorem resetValues_cur (level : Bool) (s : State) : (resetValues level s).cur = Accepted.reset := rfl

@[simp] theorem resetValues_ksC (level : Bool) (s : State) : (resetValues level s).ksC = Vector.replicate 32 0 := rfl

@[simp] theorem resetValues_ksCR (level : Bool) (s : State) : (resetValues level s).ksCR = 0 := rfl

@[simp] theorem resetValues_ksCVar (level : Bool) (s : State) : (resetValues level s).ksCVar = .noKey := rfl

@[simp] theorem resetValues_ksMac (level : Bool) (s : State) : (resetValues level s).ksMac = Vector.replicate 4 0 := rfl

@[simp] theorem resetValues_ksMacR (level : Bool) (s : State) : (resetValues level s).ksMacR = 0 := rfl

@[simp] theorem resetValues_macH (level : Bool) (s : State) : (resetValues level s).macH = 0 := rfl

@[simp] theorem resetValues_macGctr (level : Bool) (s : State) : (resetValues level s).macGctr = 0 := rfl

@[simp] theorem resetValues_work (level : Bool) (s : State) : (resetValues level s).work = Working.reset := rfl

@[simp] theorem resetValues_rst (level : Bool) (s : State) : (resetValues level s).rst = level := rfl

@[simp] theorem resetValues_env (level : Bool) (s : State) : (resetValues level s).env = s.env := rfl

@[simp] theorem resetValues_busResp (level : Bool) (s : State) : (resetValues level s).busResp = s.busResp := rfl

@[simp] theorem resetValues_lostWrites (level : Bool) (s : State) : (resetValues level s).lostWrites = s.lostWrites := rfl

end Sys2Proof.Laws
end

