-- ==== Sys2Proof/Laws/Ops.lean ====
section
/-! SUPPORT. Laws/Ops.lean: what the shared operations of Machine/Ops.lean do, said once: complete and raise, the key-schedule files, the
snapshot, DOUT. -/

namespace Sys2Proof.Laws

open Sys2Proof.Machine

/-- complete answers the completed state and nothing else. -/
theorem complete_eq_next {s t : State} : complete s = .next t ↔ t = completed s := by
  simp [complete, eq_comm]

/-- raise answers the failed state and nothing else. -/
theorem raise_eq_next {e : ErrCode} {s t : State} : raise e s = .next t ↔ t = failed e s := by
  simp [raise, eq_comm]

@[simp] theorem snapshot_word (w : Word) (s : State) : (snapshot w s).word = w := rfl
@[simp] theorem snapshot_key (w : Word) (s : State) : (snapshot w s).key = keyOf s := rfl
@[simp] theorem snapshot_din (w : Word) (s : State) : (snapshot w s).din = dinOf s := rfl
@[simp] theorem snapshot_gfA (w : Word) (s : State) : (snapshot w s).gfA = s.gfA := rfl
@[simp] theorem snapshot_gfB (w : Word) (s : State) : (snapshot w s).gfB = s.gfB := rfl
@[simp] theorem snapshot_macIv (w : Word) (s : State) : (snapshot w s).macIv = s.macIv := rfl
@[simp] theorem snapshot_macDin (w : Word) (s : State) : (snapshot w s).macDin = s.macDin := rfl
@[simp] theorem startUnits_fsm (w : Working) : (startUnits w).fsm = .ready := rfl

/-- What a register file holds after a write: the list's entries, and past them the old ones. -/
theorem fileWrite_getElem {w n : Nat} (file : Vector (BitVec w) n) (ks : List (BitVec w)) (i : Nat) (h : i < n) :
    (fileWrite file ks)[i] = if hk : i < ks.length then ks[i] else file[i] := by
  simp only [fileWrite, Vector.getElem_mk, List.getElem_toArray]
  by_cases hk : i < ks.length
  · rw [List.getElem_append_left (by simp; omega)]
    simp [hk]
  · rw [List.getElem_append_right (by simp; omega)]
    simp only [List.length_take, List.getElem_drop, hk, dite_false, Vector.getElem_toList]
    congr 1
    omega

/-- A register file's entries as a list after a write. -/
theorem fileWrite_toList {w n : Nat} (file : Vector (BitVec w) n) (ks : List (BitVec w)) :
    (fileWrite file ks).toList = ks.take n ++ file.toList.drop (ks.take n).length := rfl

/-- A list that fills the file is the file. -/
theorem fileWrite_toList_full {w n : Nat} (file : Vector (BitVec w) n) (ks : List (BitVec w)) (h : ks.length = n) :
    (fileWrite file ks).toList = ks := by
  subst h
  simp [fileWrite_toList]

/-- The valid entries after an installation are the schedule installed. -/
theorem validSchedule_installSchedule (v : Variant) (ks : List Block) (s : State) (h : ks.length ≤ 32) :
    validSchedule (installSchedule v ks s) = ks := by
  have hlen : (BitVec.ofNat 8 ks.length).toNat = ks.length := by
    rw [BitVec.toNat_ofNat]; omega
  simp only [validSchedule, installSchedule_ksC, installSchedule_ksCR, hlen, fileWrite_toList]
  rw [List.take_of_length_le h, List.take_append_of_le_length (le_refl _), List.take_length]

/-- The completion changes no entry of KS_C. -/
@[simp] theorem validSchedule_completed (s : State) : validSchedule (completed s) = validSchedule s := rfl

/-- DOUT reads back what was written. -/
@[simp] theorem doutOf_writeDout (v : Block) (s : State) : doutOf (writeDout v s) = v := by
  have : v.extractLsb' 32 32 ++ v.extractLsb' 0 32 = v := by
    ext i h
    simp only [BitVec.getElem_append, BitVec.getElem_extractLsb', Nat.zero_add]
    rw [← BitVec.getLsbD_eq_getElem]
    split
    · simp
    · congr 1; omega
  simpa [doutOf] using this

@[simp] theorem doutOf_completed (s : State) : doutOf (completed s) = doutOf s := rfl

end Sys2Proof.Laws
end

