-- ==== Sys2Proof/Laws/Bus.lean ====
section
/-! SUPPORT. Laws/Bus.lean: what a host access can do: one lemma per field a window write never changes, and what it can do to CUR, SEQ and
OVR (20_memory.md R82 to R92). -/

namespace Sys2Proof.Laws

open Sys2Proof.Machine

@[simp] theorem windowWrite_dout0 (off : Offset) (v : Word) (s : State) : (windowWrite off v s).dout0 = s.dout0 := by
  unfold windowWrite
  split
  · next r _ => cases r <;> simp only [writeReg, writeCmd, writeStatus] <;> (try split) <;> rfl
  · rfl

@[simp] theorem windowWrite_dout1 (off : Offset) (v : Word) (s : State) : (windowWrite off v s).dout1 = s.dout1 := by
  unfold windowWrite
  split
  · next r _ => cases r <;> simp only [writeReg, writeCmd, writeStatus] <;> (try split) <;> rfl
  · rfl

@[simp] theorem windowWrite_gfR (off : Offset) (v : Word) (s : State) : (windowWrite off v s).gfR = s.gfR := by
  unfold windowWrite
  split
  · next r _ => cases r <;> simp only [writeReg, writeCmd, writeStatus] <;> (try split) <;> rfl
  · rfl

@[simp] theorem windowWrite_fieldDeg (off : Offset) (v : Word) (s : State) : (windowWrite off v s).fieldDeg = s.fieldDeg := by
  unfold windowWrite
  split
  · next r _ => cases r <;> simp only [writeReg, writeCmd, writeStatus] <;> (try split) <;> rfl
  · rfl

@[simp] theorem windowWrite_fieldPoly (off : Offset) (v : Word) (s : State) : (windowWrite off v s).fieldPoly = s.fieldPoly := by
  unfold windowWrite
  split
  · next r _ => cases r <;> simp only [writeReg, writeCmd, writeStatus] <;> (try split) <;> rfl
  · rfl

@[simp] theorem windowWrite_macTag (off : Offset) (v : Word) (s : State) : (windowWrite off v s).macTag = s.macTag := by
  unfold windowWrite
  split
  · next r _ => cases r <;> simp only [writeReg, writeCmd, writeStatus] <;> (try split) <;> rfl
  · rfl

@[simp] theorem windowWrite_macHash (off : Offset) (v : Word) (s : State) : (windowWrite off v s).macHash = s.macHash := by
  unfold windowWrite
  split
  · next r _ => cases r <;> simp only [writeReg, writeCmd, writeStatus] <;> (try split) <;> rfl
  · rfl

@[simp] theorem windowWrite_err (off : Offset) (v : Word) (s : State) : (windowWrite off v s).err = s.err := by
  unfold windowWrite
  split
  · next r _ => cases r <;> simp only [writeReg, writeCmd, writeStatus] <;> (try split) <;> rfl
  · rfl

@[simp] theorem windowWrite_fieldValid (off : Offset) (v : Word) (s : State) : (windowWrite off v s).fieldValid = s.fieldValid := by
  unfold windowWrite
  split
  · next r _ => cases r <;> simp only [writeReg, writeCmd, writeStatus] <;> (try split) <;> rfl
  · rfl

@[simp] theorem windowWrite_macOpen (off : Offset) (v : Word) (s : State) : (windowWrite off v s).macOpen = s.macOpen := by
  unfold windowWrite
  split
  · next r _ => cases r <;> simp only [writeReg, writeCmd, writeStatus] <;> (try split) <;> rfl
  · rfl

@[simp] theorem windowWrite_errCode (off : Offset) (v : Word) (s : State) : (windowWrite off v s).errCode = s.errCode := by
  unfold windowWrite
  split
  · next r _ => cases r <;> simp only [writeReg, writeCmd, writeStatus] <;> (try split) <;> rfl
  · rfl

@[simp] theorem windowWrite_ksC (off : Offset) (v : Word) (s : State) : (windowWrite off v s).ksC = s.ksC := by
  unfold windowWrite
  split
  · next r _ => cases r <;> simp only [writeReg, writeCmd, writeStatus] <;> (try split) <;> rfl
  · rfl

@[simp] theorem windowWrite_ksCR (off : Offset) (v : Word) (s : State) : (windowWrite off v s).ksCR = s.ksCR := by
  unfold windowWrite
  split
  · next r _ => cases r <;> simp only [writeReg, writeCmd, writeStatus] <;> (try split) <;> rfl
  · rfl

@[simp] theorem windowWrite_ksCVar (off : Offset) (v : Word) (s : State) : (windowWrite off v s).ksCVar = s.ksCVar := by
  unfold windowWrite
  split
  · next r _ => cases r <;> simp only [writeReg, writeCmd, writeStatus] <;> (try split) <;> rfl
  · rfl

@[simp] theorem windowWrite_ksMac (off : Offset) (v : Word) (s : State) : (windowWrite off v s).ksMac = s.ksMac := by
  unfold windowWrite
  split
  · next r _ => cases r <;> simp only [writeReg, writeCmd, writeStatus] <;> (try split) <;> rfl
  · rfl

@[simp] theorem windowWrite_ksMacR (off : Offset) (v : Word) (s : State) : (windowWrite off v s).ksMacR = s.ksMacR := by
  unfold windowWrite
  split
  · next r _ => cases r <;> simp only [writeReg, writeCmd, writeStatus] <;> (try split) <;> rfl
  · rfl

@[simp] theorem windowWrite_macH (off : Offset) (v : Word) (s : State) : (windowWrite off v s).macH = s.macH := by
  unfold windowWrite
  split
  · next r _ => cases r <;> simp only [writeReg, writeCmd, writeStatus] <;> (try split) <;> rfl
  · rfl

@[simp] theorem windowWrite_macGctr (off : Offset) (v : Word) (s : State) : (windowWrite off v s).macGctr = s.macGctr := by
  unfold windowWrite
  split
  · next r _ => cases r <;> simp only [writeReg, writeCmd, writeStatus] <;> (try split) <;> rfl
  · rfl

@[simp] theorem windowWrite_rst (off : Offset) (v : Word) (s : State) : (windowWrite off v s).rst = s.rst := by
  unfold windowWrite
  split
  · next r _ => cases r <;> simp only [writeReg, writeCmd, writeStatus] <;> (try split) <;> rfl
  · rfl

@[simp] theorem windowWrite_env (off : Offset) (v : Word) (s : State) : (windowWrite off v s).env = s.env := by
  unfold windowWrite
  split
  · next r _ => cases r <;> simp only [writeReg, writeCmd, writeStatus] <;> (try split) <;> rfl
  · rfl

@[simp] theorem windowWrite_busResp (off : Offset) (v : Word) (s : State) : (windowWrite off v s).busResp = s.busResp := by
  unfold windowWrite
  split
  · next r _ => cases r <;> simp only [writeReg, writeCmd, writeStatus] <;> (try split) <;> rfl
  · rfl

@[simp] theorem windowWrite_lostWrites (off : Offset) (v : Word) (s : State) : (windowWrite off v s).lostWrites = s.lostWrites := by
  unfold windowWrite
  split
  · next r _ => cases r <;> simp only [writeReg, writeCmd, writeStatus] <;> (try split) <;> rfl
  · rfl

/-- While a command is in flight no host write changes CUR, SEQ or the working state (20_memory.md R91, R92). -/
theorem windowWrite_busy (off : Offset) (v : Word) (s : State) (h : s.seq = .busy) :
    (windowWrite off v s).cur = s.cur ∧ (windowWrite off v s).seq = .busy ∧ (windowWrite off v s).work = s.work := by
  unfold windowWrite
  split
  · next r _ =>
    cases r <;> simp [writeReg, writeCmd, writeStatus, h]
    split <;> simp [h]
  · simp [h]

/-- The register map is the inverse of regOffset (20_memory.md R82). -/
theorem regAt_regOffset (r : Reg) : regAt (regOffset r) = some r := by
  cases r <;> decide

end Sys2Proof.Laws
end

