-- ==== Sys2Proof/Laws/Cipher.lean ====
section
/-! SUPPORT. Laws/Cipher.lean: the round engine's functions bit by bit and entry by entry (41_cipher.md R172 to R185). -/

namespace Sys2Proof.Laws

open Sys2Proof.Machine

/-- A schedule has as many entries as rounds (R177). -/
@[simp] theorem scheduleFrom_length {w v : Nat} (extract : BitVec w → BitVec v) (update : Nat → BitVec w → BitVec w)
    (n i : Nat) (k : BitVec w) : (scheduleFrom extract update n i k).length = n := by
  induction n generalizing i k with
  | zero => rfl
  | succ n ih => simp [scheduleFrom, ih]

/-- The schedule KS_C takes has R entries, whichever the variant (R181). -/
theorem scheduleC_length (cfg : Config) (v : Variant) (key : KeyWord) (rounds : Nat) (h : v ≠ .noKey) :
    (scheduleC cfg v key rounds).length = rounds := by
  cases v with
  | noKey => exact absurd rfl h
  | mini => simp [scheduleC, miniSchedule]
  | p80 => simp [scheduleC, scheduleP80]
  | p128 => simp [scheduleC, scheduleP128]

@[simp] theorem miniSchedule_length (cfg : Config) (key : Half) (rounds : Nat) : (miniSchedule cfg key rounds).length = rounds := by
  simp [miniSchedule]

/-- The i-th entry of a schedule is extracted from the i-th KREG of any sequence that follows the recurrence (R177). -/
theorem scheduleFrom_getElem {w v : Nat} (extract : BitVec w → BitVec v) (update : Nat → BitVec w → BitVec w)
    (n : Nat) (kreg : Nat → BitVec w) (start : Nat) (hstep : ∀ i, start ≤ i → kreg (i + 1) = update i (kreg i)) (j : Nat)
    (hj : j < (scheduleFrom extract update n start (kreg start)).length) :
    (scheduleFrom extract update n start (kreg start))[j] = extract (kreg (start + j)) := by
  induction n generalizing start j with
  | zero => simp [scheduleFrom] at hj
  | succ n ih =>
    cases j with
    | zero => simp [scheduleFrom]
    | succ j =>
      simp only [scheduleFrom, List.getElem_cons_succ]
      have hnext := hstep start (le_refl _)
      have := ih (start + 1) (fun i hi => hstep i (by omega)) j (by simpa [scheduleFrom, hnext] using hj)
      simp only [hnext] at this
      rw [this]
      congr 2
      omega

/-- The number of rounds of a key load is 1 or more (R190, R191). -/
theorem roundCount_pos (rnd default : Nat) (h : 0 < default) : 0 < roundCount rnd default := by
  unfold roundCount
  split <;> omega

/-- A key load that passes its check installs at most ROUNDS_MAX round keys. -/
theorem roundCount_le (rnd default : Nat) (h : rnd ≤ Config.roundsMax) (hd : default ≤ Config.roundsMax) :
    roundCount rnd default ≤ Config.roundsMax := by
  unfold roundCount
  split <;> omega

/-- A bit of an OR over a list of bit vectors. -/
theorem getLsbD_foldl_or {α : Type} {w : Nat} (f : α → BitVec w) (l : List α) (acc : BitVec w) (j : Nat) :
    (l.foldl (fun a i => a ||| f i) acc).getLsbD j = (acc.getLsbD j || l.any fun i => (f i).getLsbD j) := by
  induction l generalizing acc with
  | nil => simp
  | cons x l ih => simp [ih, Bool.or_assoc]

/-- A bit of a permutation layer's output: some input bit that is set moves there (R173 to R175). -/
theorem getLsbD_permuteBits {w : Nat} (p : Nat → Nat) (s : BitVec w) (j : Nat) :
    (permuteBits p s).getLsbD j = (List.range w).any fun i => decide (j < w) && s.getLsbD i && decide (j = p i) := by
  unfold permuteBits
  rw [getLsbD_foldl_or]
  simp only [BitVec.getLsbD_zero, Bool.false_or]
  congr 1
  funext i
  by_cases hs : s.getLsbD i
  · simp only [hs, if_true, BitVec.getLsbD_shiftLeft, BitVec.getLsbD_one, Bool.and_true]
    by_cases hj : j < w <;> by_cases he : j = p i
    · subst he; simp; omega
    · simp [hj, he]; omega
    · simp [hj]
    · simp [hj]
  · simp [hs]

end Sys2Proof.Laws
end

