-- ==== Sys2Proof/Laws/Commands.lean ====
section
/-! SUPPORT. Laws/Commands.lean: for each command, everything its meaning can answer, guards included. A proof about a command cites these
and does not unfold the meaning. -/

namespace Sys2Proof.Laws

open Sys2Proof.Machine

/-- NOP (43_control.md R270). -/
theorem execNop_cases {s t : State} (h : exec .nop s = .next t) : t = completed s :=
  complete_eq_next.mp h

/-- GF_CONFIGURE (40_gf_multiplier.md R140). -/
theorem execGfConfigure_cases {m : Nat} {s t : State} (h : exec (.gfConfigure m) s = .next t) :
    (fieldParamsOk m s.cur.gfA = true ∧
      t = completed { s with fieldDeg := BitVec.ofNat 8 m, fieldPoly := s.cur.gfA, fieldValid := true }) ∨
    (fieldParamsOk m s.cur.gfA = false ∧ t = failed .invalidFieldParams s) := by
  simp only [exec, execGfConfigure] at h
  split at h
  · next hk => exact .inl ⟨hk, complete_eq_next.mp h⟩
  · next hk => exact .inr ⟨by simpa using hk, raise_eq_next.mp h⟩

/-- GF_MUL (40_gf_multiplier.md R141). -/
theorem execGfMul_cases {s t : State} (h : exec .gfMul s = .next t) :
    (s.fieldValid = false ∧ t = failed .fieldNotConfigured s) ∨
    (s.fieldValid = true ∧ t = completed { s with gfR := gfmProduct s (gfPort s.cur.gfA) (gfPort s.cur.gfB) }) := by
  simp only [exec, execGfMul] at h
  split at h
  · next hk => exact .inl ⟨hk, raise_eq_next.mp h⟩
  · next hk => exact .inr ⟨by simpa using hk, complete_eq_next.mp h⟩

/-- KEY_LOAD_PRESENT (41_cipher.md R190). -/
theorem execKeyLoadPresent_cases {klen rounds : Nat} {s t : State} (h : exec (.keyLoadPresent klen rounds) s = .next t) :
    ((klen ≠ 10 ∧ klen ≠ 16) ∧ t = failed .invalidKeyLength s) ∨
    (¬(klen ≠ 10 ∧ klen ≠ 16) ∧ Config.roundsMax < rounds ∧ t = failed .invalidRounds s) ∨
    (¬(klen ≠ 10 ∧ klen ≠ 16) ∧ rounds ≤ Config.roundsMax ∧
      t = completed (installSchedule (presentVariant klen)
        (scheduleC Config.machine (presentVariant klen) s.cur.key (roundCount rounds Config.presentDefaultRounds)) s)) := by
  simp only [exec, execKeyLoadPresent] at h
  split at h
  · next hk => exact .inl ⟨hk, raise_eq_next.mp h⟩
  · next hk =>
    split at h
    · next hr => exact .inr (.inl ⟨hk, hr, raise_eq_next.mp h⟩)
    · next hr => exact .inr (.inr ⟨hk, Nat.le_of_not_lt hr, complete_eq_next.mp h⟩)

/-- KEY_LOAD_MINI (41_cipher.md R191). -/
theorem execKeyLoadMini_cases {rounds : Nat} {s t : State} (h : exec (.keyLoadMini rounds) s = .next t) :
    (Config.roundsMax < rounds ∧ t = failed .invalidRounds s) ∨
    (rounds ≤ Config.roundsMax ∧
      t = completed (installSchedule .mini
        (scheduleC Config.machine .mini s.cur.key (roundCount rounds Config.miniDefaultRounds)) s)) := by
  simp only [exec, execKeyLoadMini, keyLoadMiniUnder] at h
  split at h
  · next hr => exact .inl ⟨hr, raise_eq_next.mp h⟩
  · next hr => exact .inr ⟨Nat.le_of_not_lt hr, complete_eq_next.mp h⟩

/-- ENCRYPT (41_cipher.md R192). -/
theorem execEncrypt_cases {s t : State} (h : exec .encrypt s = .next t) :
    (s.ksCR = 0#8 ∧ t = failed .keyNotLoaded s) ∨
    (s.ksCR ≠ 0#8 ∧ t = completed (writeDout (encBlock Config.machine s.ksCVar (validSchedule s) s.cur.din) s)) := by
  simp only [exec, execEncrypt, encryptUnder] at h
  split at h
  · next hk => exact .inl ⟨hk, raise_eq_next.mp h⟩
  · next hk => exact .inr ⟨hk, complete_eq_next.mp h⟩

/-- DECRYPT (41_cipher.md R193). -/
theorem execDecrypt_cases {s t : State} (h : exec .decrypt s = .next t) :
    (s.ksCR = 0#8 ∧ t = failed .keyNotLoaded s) ∨
    (s.ksCR ≠ 0#8 ∧ t = completed (writeDout (decBlock Config.machine s.ksCVar (validSchedule s) s.cur.din) s)) := by
  simp only [exec, execDecrypt, decryptUnder] at h
  split at h
  · next hk => exact .inl ⟨hk, raise_eq_next.mp h⟩
  · next hk => exact .inr ⟨hk, complete_eq_next.mp h⟩

/-- The Mini schedule MAC_INIT derives (42_mac.md R240). -/
abbrev macInitSchedule (s : State) : List Byte :=
  miniSchedule Config.machine (keyMini s.cur.key) Config.miniDefaultRounds

/-- MAC_INIT (42_mac.md R240). -/
theorem execMacInit_cases {s t : State} (h : exec .macInit s = .next t) :
    t = completed { s with
      ksMac := fileWrite s.ksMac (macInitSchedule s)
      ksMacR := BitVec.ofNat 8 Config.miniDefaultRounds
      macH := hashKey Config.machine (macInitSchedule s)
      macOpen := false } :=
  complete_eq_next.mp h

/-- MAC_START (42_mac.md R241). -/
theorem execMacStart_cases {s t : State} (h : exec .macStart s = .next t) :
    (s.ksMacR = 0#8 ∧ t = failed .macNotReady s) ∨
    (s.ksMacR ≠ 0#8 ∧
      t = completed { s with
        macGctr := gctr Config.machine (macSchedule s) s.cur.macIv
        macHash := 0#16
        macTag := 0#16
        macOpen := true }) := by
  simp only [exec, execMacStart, macStartUnder] at h
  split at h
  · next hk => exact .inl ⟨hk, raise_eq_next.mp h⟩
  · next hk => exact .inr ⟨hk, complete_eq_next.mp h⟩

/-- MAC_CHUNK (42_mac.md R242). -/
theorem execMacChunk_cases {s t : State} (h : exec .macChunk s = .next t) :
    (s.macOpen = false ∧ t = failed .macNotReady s) ∨
    (s.macOpen = true ∧ s.fieldValid = false ∧ t = failed .fieldNotConfigured s) ∨
    (s.macOpen = true ∧ s.fieldValid = true ∧
      t = completed { s with
        macHash := hashStep s s.macHash s.cur.macDin
        macTag := tagOf (hashStep s s.macHash s.cur.macDin) s.macGctr }) := by
  simp only [exec, execMacChunk] at h
  split at h
  · next hk => exact .inl ⟨hk, raise_eq_next.mp h⟩
  · next hk =>
    split at h
    · next hf => exact .inr (.inl ⟨by simpa using hk, hf, raise_eq_next.mp h⟩)
    · next hf => exact .inr (.inr ⟨by simpa using hk, by simpa using hf, complete_eq_next.mp h⟩)

/-- IV_COND (42_mac.md R243). -/
theorem execIvCond_cases {s t : State} (h : exec .ivCond s = .next t) :
    t = completed { s with macIv := conditionIv s.cur.macIv } :=
  complete_eq_next.mp h

end Sys2Proof.Laws
end

