-- ==== Sys2Proof/Laws/PerInstr.lean ====
section
/-! SUPPORT. Laws/PerInstr.lean: what is said of every command, one lemma per constructor. TableRow: the word of a well-formed command
matches its own row of the opcode table, bit for bit under the row's mask (30_encoding.md R110, R112). -/

namespace Sys2Proof.Laws.TableRow

open Sys2Proof

/-- The mask of a command's row in the opcode table: the bits its row fixes. -/
def rowMask : Instr → Word
  | .nop => 0xFFFFFFFF#32
  | .gfConfigure _ => 0xFFFF00FF#32
  | .gfMul => 0xFFFFFFFF#32
  | .keyLoadPresent _ _ => 0xFF0000FF#32
  | .keyLoadMini _ => 0xFF00FFFF#32
  | .encrypt => 0xFFFFFFFF#32
  | .decrypt => 0xFFFFFFFF#32
  | .macInit => 0xFFFFFFFF#32
  | .macStart => 0xFFFFFFFF#32
  | .macChunk => 0xFFFFFFFF#32
  | .ivCond => 0xFFFFFFFF#32

/-- The match of a command's row in the opcode table: the value of the fixed bits. -/
def rowMatch : Instr → Word
  | .nop => 0x00000000#32
  | .gfConfigure _ => 0x00000001#32
  | .gfMul => 0x00000002#32
  | .keyLoadPresent _ _ => 0x00000010#32
  | .keyLoadMini _ => 0x00000011#32
  | .encrypt => 0x00000012#32
  | .decrypt => 0x00000013#32
  | .macInit => 0x00000020#32
  | .macStart => 0x00000021#32
  | .macChunk => 0x00000022#32
  | .ivCond => 0x00000023#32

/-- The command's word carries its row's fixed bits. -/
def Statement (i : Instr) : Prop := WellFormed i → encode i &&& rowMask i = rowMatch i

/-- ANDing an OR of three pieces. -/
theorem and_pieces (a b c m : Word) : (a ||| b ||| c) &&& m = (a &&& m) ||| (b &&& m) ||| (c &&& m) := by
  rw [BitVec.and_or_distrib_right, BitVec.and_or_distrib_right]

/-- An immediate in the ARG field leaves no bit under a mask that excludes the field. -/
theorem arg_masked (n : Nat) (h : n < 256) :
    (BitVec.ofNat 32 n <<< 8) &&& 0xFFFF00FF#32 = 0#32 ∧ (BitVec.ofNat 32 n <<< 8) &&& 0xFF0000FF#32 = 0#32 := by
  have all : ∀ k : Fin 256, (BitVec.ofNat 32 k.val <<< 8) &&& 0xFFFF00FF#32 = 0#32 ∧
      (BitVec.ofNat 32 k.val <<< 8) &&& 0xFF0000FF#32 = 0#32 := by decide +kernel
  exact all ⟨n, h⟩

/-- An immediate in the RND field leaves no bit under a mask that excludes the field. -/
theorem rnd_masked (n : Nat) (h : n < 256) :
    (BitVec.ofNat 32 n <<< 16) &&& 0xFF00FFFF#32 = 0#32 ∧ (BitVec.ofNat 32 n <<< 16) &&& 0xFF0000FF#32 = 0#32 := by
  have all : ∀ k : Fin 256, (BitVec.ofNat 32 k.val <<< 16) &&& 0xFF00FFFF#32 = 0#32 ∧
      (BitVec.ofNat 32 k.val <<< 16) &&& 0xFF0000FF#32 = 0#32 := by decide +kernel
  exact all ⟨n, h⟩

theorem nop : Statement .nop := by
  intro _
  decide

theorem gfConfigure (m : Nat) : Statement (.gfConfigure m) := by
  intro h
  simp only [WellFormed, Instr.wellFormed, fitsField, decide_eq_true_eq] at h
  simp only [encode, cmd32, rowMask, rowMatch, and_pieces, (arg_masked m h).1]
  decide

theorem gfMul : Statement .gfMul := by
  intro _
  decide

theorem keyLoadPresent (klen rounds : Nat) : Statement (.keyLoadPresent klen rounds) := by
  intro h
  simp only [WellFormed, Instr.wellFormed, fitsField, Bool.and_eq_true, decide_eq_true_eq] at h
  simp only [encode, cmd32, rowMask, rowMatch, and_pieces, (arg_masked klen h.1).2, (rnd_masked rounds h.2).2]
  decide

theorem keyLoadMini (rounds : Nat) : Statement (.keyLoadMini rounds) := by
  intro h
  simp only [WellFormed, Instr.wellFormed, fitsField, decide_eq_true_eq] at h
  simp only [encode, cmd32, rowMask, rowMatch, and_pieces, (rnd_masked rounds h).1]
  decide

theorem encrypt : Statement .encrypt := by
  intro _
  decide

theorem decrypt : Statement .decrypt := by
  intro _
  decide

theorem macInit : Statement .macInit := by
  intro _
  decide

theorem macStart : Statement .macStart := by
  intro _
  decide

theorem macChunk : Statement .macChunk := by
  intro _
  decide

theorem ivCond : Statement .ivCond := by
  intro _
  decide

end Sys2Proof.Laws.TableRow
end

