-- ==== Sys2Proof/Laws/Step.lean ====
section
/-! SUPPORT. Laws/Step.lean: everything one step of the machine can do, guards included (70_reset_and_hazards.md R340). -/

namespace Sys2Proof.Laws

open Sys2Proof.Machine

/-- The cases of a step that answers t. -/
inductive StepCase (s t : State) : Prop where
  /-- Nothing pending, and the core idle or held in reset: it holds its state. -/
  | hold (henv : s.env = []) (hq : s.rst = true ∨ s.seq = .idle) (ht : t = s)
  /-- Nothing pending: the command in flight completes. -/
  | quietCompletion (henv : s.env = []) (hr : s.rst = false) (hb : s.seq = .busy) (ht : completeAccepted s = .next t)
  /-- A step while reset is asserted. -/
  | inReset (e : EnvStep) (rest : List EnvStep) (henv : s.env = e :: rest) (hr : s.rst = true)
      (ht : t = stepInReset e { s with env := rest })
  /-- A host read. -/
  | read (off : Offset) (size : AccessSize) (rest : List EnvStep) (henv : s.env = .read off size :: rest) (hr : s.rst = false)
      (ht : t = hostRead Config.machine off size { s with env := rest })
  /-- A host write. -/
  | write (off : Offset) (strobes : Strobes) (v : Word) (rest : List EnvStep) (henv : s.env = .write off strobes v :: rest)
      (hr : s.rst = false) (ht : t = hostWrite off strobes v { s with env := rest })
  /-- A completion that is not enabled. -/
  | completionIdle (rest : List EnvStep) (henv : s.env = .complete :: rest) (hr : s.rst = false) (hi : s.seq = .idle)
      (ht : t = { s with env := rest })
  /-- A completion. -/
  | completion (rest : List EnvStep) (henv : s.env = .complete :: rest) (hr : s.rst = false) (hb : s.seq = .busy)
      (ht : completeAccepted { s with env := rest } = .next t)
  /-- A clock cycle. -/
  | clock (rest : List EnvStep) (henv : s.env = .clock :: rest) (hr : s.rst = false)
      (ht : t = clockCycle Config.machine { s with env := rest })
  /-- Reset is asserted. -/
  | resetAssert (rest : List EnvStep) (henv : s.env = .resetAssert :: rest) (hr : s.rst = false)
      (ht : t = resetValues true { s with env := rest })
  /-- Reset is released while it is not asserted. -/
  | releaseIgnored (rest : List EnvStep) (henv : s.env = .resetRelease :: rest) (hr : s.rst = false)
      (ht : t = { s with env := rest })

/-- Every step is one of the cases. -/
theorem step_case {s t : State} (h : step s = .next t) : StepCase s t := by
  unfold step nextStep at h
  split at h
  · next henv =>
    unfold quietStep at h
    split at h
    · next hr => exact .hold henv (.inl hr) (by simpa [eq_comm] using h)
    · next hr =>
      have hr : s.rst = false := by simpa using hr
      unfold completionStep at h
      split at h
      · next hi => exact .hold henv (.inr hi) (by simpa [eq_comm] using h)
      · next hb => exact .quietCompletion henv hr hb h
  · next e rest henv =>
    unfold envStep at h
    split at h
    · next hr => exact .inReset e rest henv hr (by simpa [eq_comm] using h)
    · next hr =>
      have hr : s.rst = false := by simpa using hr
      cases e with
      | read off size => exact .read off size rest henv hr (by simpa [stepRunning, eq_comm] using h)
      | write off strobes v => exact .write off strobes v rest henv hr (by simpa [stepRunning, eq_comm] using h)
      | complete =>
        simp only [stepRunning, completionStep] at h
        split at h
        · next hi => exact .completionIdle rest henv hr hi (by simpa [eq_comm] using h)
        · next hb => exact .completion rest henv hr hb h
      | clock => exact .clock rest henv hr (by simpa [stepRunning, eq_comm] using h)
      | resetAssert => exact .resetAssert rest henv hr (by simpa [stepRunning, eq_comm] using h)
      | resetRelease => exact .releaseIgnored rest henv hr (by simpa [stepRunning, eq_comm] using h)

/-- A completion is a command's meaning or IllegalCommand (30_encoding.md R114). -/
theorem completeAccepted_cases {s t : State} (h : completeAccepted s = .next t) :
    (∃ i, decode s.cur.word = some i ∧ exec i s = .next t) ∨
      (decode s.cur.word = none ∧ t = failed .illegalCommand s) := by
  unfold completeAccepted at h
  split at h
  · next i hi => exact .inl ⟨i, hi, h⟩
  · next hn => exact .inr ⟨hn, raise_eq_next.mp h⟩

/-- A clock cycle changes at most the working state (10_state.md R34). -/
theorem clockCycle_eq (cfg : Config) (s : State) : ∃ work, clockCycle cfg s = { s with work := work } := by
  unfold clockCycle
  split
  · exact ⟨s.work, rfl⟩
  · exact ⟨_, rfl⟩

end Sys2Proof.Laws
end

