-- ==== Sys2Proof/Tests/Slice0.lean ====
section
/-! SUPPORT. Tests/Slice0.lean: the model's own tests. Expected values come from the spec: 95_test_vectors.md (written TV below), 30_encoding.md
R119 and the worked examples of the commands' rules. A vector that depends on an OPEN parameter is tested in the reference
configuration of R9, through the command's meaning under a configuration. The witnesses show states and operands that meet the
hypotheses of the statements. -/

namespace Sys2Proof.Tests

open Sys2Proof Sys2Proof.Machine

/-! ## Helpers -/

/-- A value read from the state a meaning answers. -/
def showing {α : Type} (f : State → α) : Result → Option α
  | .next t => some (f t)
  | .fault _ => none
  | .refused _ => none

/-- The reset state with operands in the snapshot. -/
def withKey (key : KeyWord) : State := { State.reset with cur := { Accepted.reset with key := key } }

/-- The reset state with a configured field and the snapshot's GF_A and GF_B. -/
def withField (m : Byte) (p a b : Word) : State :=
  { State.reset with
    fieldValid := true
    fieldDeg := m
    fieldPoly := p
    cur := { Accepted.reset with gfA := a, gfB := b } }

/-- The reset state with a schedule in KS_C and the snapshot's DIN. -/
def withSchedule (v : Variant) (ks : List Block) (din : Block) : State :=
  { installSchedule v ks State.reset with cur := { Accepted.reset with din := din } }

/-- The reset state with the MAC key 235 of TV 2.7, the default field and the snapshot's MAC_IV and MAC_DIN. -/
def withMac (gctr iv din : Half) (msgOpen : Bool) : State :=
  { State.reset with
    fieldValid := true
    fieldDeg := 16
    fieldPoly := 0x1100B
    ksMac := #v[0x00#8, 0xD5#8, 0x31#8, 0x84#8]
    ksMacR := 4
    macH := 0xF2
    macGctr := gctr
    macOpen := msgOpen
    cur := { Accepted.reset with macIv := iv, macDin := din } }

/-- The reset state with the environment's pending steps. -/
def withEnv (env : List EnvStep) : State := { State.reset with env := env }

/-- A command in flight with the environment's pending steps. -/
def inFlight (w : Word) (env : List EnvStep) : State := { accept w State.reset with env := env }

/-! ## WellFormed: each check refuses an ill-formed command -/

theorem test_degree_over_eight_bits_is_ill_formed : ¬WellFormed (.gfConfigure 256) := by decide

theorem test_key_length_over_eight_bits_is_ill_formed : ¬WellFormed (.keyLoadPresent 256 0) := by decide

theorem test_present_rounds_over_eight_bits_is_ill_formed : ¬WellFormed (.keyLoadPresent 10 256) := by decide

theorem test_mini_rounds_over_eight_bits_is_ill_formed : ¬WellFormed (.keyLoadMini 256) := by decide

theorem test_out_of_range_immediates_are_well_formed :
    WellFormed (.gfConfigure 255) ∧ WellFormed (.keyLoadPresent 255 255) ∧ WellFormed (.keyLoadMini 255) := by decide

/-! ## Decode: words written out from R110's layout RSV, RND, ARG, OP and R112's opcodes -/

theorem test_decode_nop : decode 0b00000000000000000000000000000000#32 = some .nop := by decide

theorem test_decode_gfConfigure : decode 0b00000000000000000001000000000001#32 = some (.gfConfigure 16) := by decide

theorem test_decode_gfMul : decode 0b00000000000000000000000000000010#32 = some .gfMul := by decide

theorem test_decode_keyLoadPresent :
    decode 0b00000000001000000001000000010000#32 = some (.keyLoadPresent 16 32) := by decide

theorem test_decode_keyLoadMini : decode 0b00000000000001000000000000010001#32 = some (.keyLoadMini 4) := by decide

theorem test_decode_encrypt : decode 0b00000000000000000000000000010010#32 = some .encrypt := by decide

theorem test_decode_decrypt : decode 0b00000000000000000000000000010011#32 = some .decrypt := by decide

theorem test_decode_macInit : decode 0b00000000000000000000000000100000#32 = some .macInit := by decide

theorem test_decode_macStart : decode 0b00000000000000000000000000100001#32 = some .macStart := by decide

theorem test_decode_macChunk : decode 0b00000000000000000000000000100010#32 = some .macChunk := by decide

theorem test_decode_ivCond : decode 0b00000000000000000000000000100011#32 = some .ivCond := by decide

/-- R114, one word for each of its four cases. -/
theorem test_decode_refuses_illegal_words :
    decode 0x00000030#32 = none ∧ decode 0x01000000#32 = none ∧ decode 0x00000102#32 = none ∧ decode 0x00010301#32 = none := by
  decide

/-- The words of R119 and TV 2.8. -/
theorem test_encode_examples :
    encode (.gfConfigure 3) = 0x00000301#32 ∧ encode (.keyLoadPresent 10 0) = 0x00000A10#32 ∧
      encode (.keyLoadPresent 16 32) = 0x00201010#32 ∧ encode (.keyLoadMini 4) = 0x00040011#32 ∧
      encode .ivCond = 0x00000023#32 := by decide

/-- A word laid out in byte lanes, lowest first, and read back (20_memory.md R85). -/
theorem test_lanes_of_a_word :
    lanesOfWord 0x00201010#32 = [0x10#8, 0x10#8, 0x20#8, 0x00#8] ∧
      wordOfLanes [0x10#8, 0x10#8, 0x20#8, 0x00#8] = 0x00201010#32 := by decide

/-! ## The commands -/

/-- R270: an error of an earlier command is cleared. -/
theorem test_nop_clears_the_error :
    showing (fun t => (t.err, t.errCode)) (exec .nop { State.reset with err := true, errCode := .macNotReady }) =
      some (false, .ok) := by decide

/-- TV 2.1: GF_A = 0x1100B, gf.cfg 16: STATUS = 0x00000008. -/
theorem test_gfConfigure_default_field :
    showing (fun t => (t.fieldDeg, t.fieldPoly, statusWord t)) (exec (.gfConfigure 16) (withField 0 0 0x1100B 0)) =
      some (16#8, 0x1100B#32, 0x00000008#32) := by decide

/-- TV 2.1: a polynomial of degree 4 for m = 3 gives ERRCODE 6. -/
theorem test_gfConfigure_degree_too_high :
    showing (fun t => (errNumber t.errCode, t.fieldDeg)) (exec (.gfConfigure 3) (withField 0 0 0b11011 0)) =
      some (6, 0#8) := by decide

/-- TV S1: GF_A = 3, GF_B = 5 in the field (3, 0b1011) gives GF_R = 4. -/
theorem test_gfMul_field_scenario :
    showing (·.gfR) (exec .gfMul (withField 3 0b1011 3 5)) = some 4#16 := by decide +kernel

/-- TV 2.1: port truncation, GF_A = 0x1234, GF_B = 0x00010002 gives 0x2468. -/
theorem test_gfMul_truncates_its_ports :
    showing (·.gfR) (exec .gfMul (withField 16 0x1100B 0x1234 0x00010002)) = some 0x2468#16 := by decide +kernel

/-- TV 2.4: P80, key 0, R = 4; and the STATUS and KS_ROUNDS of TV 2.6's good loads. -/
theorem test_keyLoadPresent_schedule :
    showing (fun t => (validSchedule t, t.ksCR, t.ksCVar)) (exec (.keyLoadPresent 10 4) (withKey 0)) =
      some ([0x0#64, 0xC000000000000000#64, 0x5000180000000001#64, 0x60000A0003000001#64], 4#8, .p80) := by
  decide +kernel

/-- R282's example: word 0x00210810 (klen 8, R 33) raises InvalidKeyLength. -/
theorem test_keyLoadPresent_checks_the_length_first :
    decode 0x00210810#32 = some (.keyLoadPresent 8 33) ∧
      showing (fun t => errNumber t.errCode) (exec (.keyLoadPresent 8 33) (withKey 0)) = some 1 := by decide

/-- TV 2.4: MINI, KEY0 = 0x000100EB: bit 16 is ignored. -/
theorem test_keyLoadMini_schedule :
    showing (fun t => (validSchedule t, t.ksCVar)) (keyLoadMiniUnder Config.reference 0 (withKey 0x100EB)) =
      some ([0x00#64, 0xD5#64, 0x31#64, 0x84#64], .mini) := by decide +kernel

/-- TV 2.4: MINI, key 0x1234, R = 7. -/
theorem test_keyLoadMini_seven_rounds :
    showing validSchedule (keyLoadMiniUnder Config.reference 7 (withKey 0x1234)) =
      some [0x12#64, 0x5A#64, 0x95#64, 0x77#64, 0xF7#64, 0xEF#64, 0x8E#64] := by decide +kernel

/-- TV 2.3: P80, key 0, R = 2 encrypts 0 to 0x3FFFFFFF00000000. -/
theorem test_encrypt_two_rounds :
    showing (fun t => (t.dout1, t.dout0))
        (exec .encrypt (withSchedule .p80 [0x0#64, 0xC000000000000000#64] 0)) =
      some (0x3FFFFFFF#32, 0#32) := by decide +kernel

/-- TV S4: Mini, key 0: DIN = 1025 encrypts as 0x01, to 0xBD. -/
theorem test_encrypt_mini_reads_one_byte :
    showing doutOf (encryptUnder Config.reference (withSchedule .mini [0x00#64, 0xC0#64, 0x91#64, 0x81#64] 1025)) =
      some 0xBD#64 := by decide +kernel

/-- TV 2.3 read backwards: P80, key 0, R = 2 decrypts 0x3FFFFFFF00000000 to 0. -/
theorem test_decrypt_two_rounds :
    showing doutOf (exec .decrypt (withSchedule .p80 [0x0#64, 0xC000000000000000#64] 0x3FFFFFFF00000000)) =
      some 0#64 := by decide +kernel

/-- TV S3: Mini, key 0: DECRYPT(0x3A) = 0xFF. -/
theorem test_decrypt_mini :
    showing doutOf (decryptUnder Config.reference (withSchedule .mini [0x00#64, 0xC0#64, 0x91#64, 0x81#64] 0x3A)) =
      some 0xFF#64 := by decide +kernel

/-- R240's example: KEY0 = 235 gives KS_MAC = [0x00, 0xD5, 0x31, 0x84] and MAC_H = 0xF2. -/
theorem test_macInit_derives_the_hash_key :
    showing (fun t => (t.ksMac.toList, t.ksMacR, t.macH)) (macInitUnder Config.reference (withKey 235)) =
      some ([0x00#8, 0xD5#8, 0x31#8, 0x84#8], 4#8, 0xF2#8) := by decide +kernel

/-- R241's example: key 235, MAC_IV = 0x5341 gives MAC_GCTR = 0xF0DD. -/
theorem test_macStart_latches_the_keystream :
    showing (fun t => (t.macGctr, t.macOpen)) (macStartUnder Config.reference (withMac 0 0x5341 0 false)) =
      some (0xF0DD#16, true) := by decide +kernel

/-- R232's example: GCTR(0x0041) = 0x00DD in BY_VALUE and 0xF2DD in FIXED_WIDTH. -/
theorem test_macStart_byte_loop_modes :
    showing (·.macGctr) (macStartUnder Config.reference (withMac 0 0x0041 0 false)) = some 0x00DD#16 ∧
      showing (·.macGctr)
          (macStartUnder { Config.reference with gctrLoop := .fixedWidth } (withMac 0 0x0041 0 false)) =
        some 0xF2DD#16 := by decide +kernel

/-- TV S5: the first chunk 0x4607 gives MAC_HASH = 0x7F71 and MAC_TAG = 0x8FAC. -/
theorem test_macChunk_scenario :
    showing (fun t => (t.macHash, t.macTag)) (exec .macChunk (withMac 0xF0DD 0 0x4607 true)) =
      some (0x7F71#16, 0x8FAC#16) := by decide +kernel

/-- R282's example: MAC_CHUNK after reset raises MacNotReady, though the field is also unconfigured. -/
theorem test_macChunk_not_ready_comes_first :
    showing (fun t => errNumber t.errCode) (exec .macChunk State.reset) = some 8 := by decide

/-- R243's examples. -/
theorem test_ivCond_examples :
    showing (·.macIv) (exec .ivCond (withMac 0 0x5340 0 false)) = some 0x5341#16 ∧
      showing (·.macIv) (exec .ivCond (withMac 0 0xFFFF 0 false)) = some 0xFFF1#16 := by decide

/-! ## The functions, the window and the step -/

/-- TV 2.1: degree 16 and degree 8 products, and the out-of-field rows of m = 3. -/
theorem test_gfMul_vectors :
    gfMul 0xFFFF 0xFFFF 16 0x1100B = 0x0733 ∧ gfMul 0x1234 0x5678 16 0x1100B = 0x6324 ∧ gfMul 0x57 0x83 8 0x11B = 0xC1 ∧
      gfMul 0xF 3 3 0b1011 = 2 ∧ gfMul 3 0xF 3 0b1011 = 7 := by decide +kernel

/-- TV 2.3: P80, 0x0123456789ABCDEF0123 on 0x0123456789ABCDEF. -/
theorem test_present80_vector :
    enc64 (scheduleP80 0x0123456789ABCDEF0123#80 32) 0x0123456789ABCDEF#64 = 0xF8DD50531D973BDE#64 := by decide +kernel

/-- TV 2.3: P128, all ones on 0, and its decryption. -/
theorem test_present128_vector :
    dec64 (scheduleP128 (BitVec.allOnes 128) 32) 0x13238C710272A5D8#64 = 0#64 := by decide +kernel

/-- R54: INFO2 = 0x00F59D10 in the reference configuration. -/
theorem test_info2_of_the_reference : infoTwoWord Config.reference = 0x00F59D10#32 := by decide +kernel

/-- TV P7: a CMD write while a command is in flight is dropped and sets OVR. -/
theorem test_overrun_sets_ovr :
    showing (fun t => (t.ovr, t.cur.word, t.seq)) (step (inFlight 0x12#32 [.write 0x00#8 0xF#4 0x13#32])) =
      some (true, 0x12#32, .busy) := by decide

/-- R84: a half-word strobed CMD write issues no command. -/
theorem test_partial_cmd_write_is_refused :
    showing (fun t => (t.seq, t.busResp)) (step (withEnv [.write 0x00#8 0x3#4 0x12#32])) =
      some (.idle, some (.write .error)) := by decide

/-- R322: a read during asserted reset returns 0 with OKAY. -/
theorem test_read_in_reset_is_lost :
    showing (·.busResp) (step { withEnv [.read 0x08#8 .word] with rst := true, key0 := 5 }) =
      some (some (.read .okay 0#32)) := by decide

/-- The whole way of a command at the machine: operand write, CMD write, completion (20_memory.md R91 to R93). -/
theorem test_command_from_reset :
    showing (fun t => (t.macIv, t.seq))
        (runSteps 3 (withEnv [.write 0x3C#8 0xF#4 0x5340#32, .write 0x00#8 0xF#4 0x23#32, .complete])) =
      some (0x5341#16, .idle) := by decide

/-- R86: an 8-byte block converts big-endian, both ways. -/
theorem test_block_bytes_are_big_endian :
    natOfBytes [0x01, 0x23, 0x45, 0x67, 0x89, 0xAB, 0xCD, 0xEF] = 0x0123456789ABCDEF ∧
      bytesOfNat 8 0x0123456789ABCDEF = [0x01, 0x23, 0x45, 0x67, 0x89, 0xAB, 0xCD, 0xEF] := by decide

/-- R245: the chunks of a message, lowest first. -/
theorem test_message_chunks :
    messageChunks (bitLen 0x123456789) 0x123456789 = [0x6789#16, 0x2345#16, 0x1#16] ∧ messageChunks (bitLen 0) 0 = [] := by
  decide +kernel

/-- A word placed at reset is the command the next step runs (log 10). -/
theorem test_placed_word_runs :
    showing (fun t => (t.errCode, t.seq)) (step (State.reset.withFetchWord 32 0x12)) = some (.keyNotLoaded, .idle) := by decide

/-! ## Witnesses: concrete states and operands that meet the hypotheses of each statement of Certificates/Slice0/Obligations.lean, clause by
clause, at boundary values where a clause has a range. A statement with no hypothesis has none here. -/

/-- The invariant holds of the reset state. -/
theorem reset_coreInv : CoreInv State.reset := by
  constructor <;> simp [State.reset, FieldContextOk, validSchedule, doutOf]

theorem witness_DecodeOfEncode :
    WellFormed .nop ∧ WellFormed (.gfConfigure 0) ∧ WellFormed (.gfConfigure 255) ∧ WellFormed (.keyLoadPresent 255 255) := by decide

theorem witness_EncodeOfDecode : decode 0x00FFFF10#32 = some (.keyLoadPresent 255 255) := by decide

theorem witness_IllegalWords :
    decode 0xFFFFFFFF#32 = none ∧ (withEnv [.write 0x00#8 0xF#4 0xFFFFFFFF#32, .complete]).rst = false ∧
      (withEnv [.write 0x00#8 0xF#4 0xFFFFFFFF#32, .complete]).seq = .idle := by decide

theorem witness_ResetGives_assert : (inFlight 0 [.resetAssert]).env = [.resetAssert] := rfl

theorem witness_ResetGives_release :
    ({ withEnv [.resetRelease] with rst := true } : State).env = [.resetRelease] ∧
      ({ withEnv [.resetRelease] with rst := true } : State).rst = true := by decide

theorem witness_ResetAbandons_inFlight :
    (inFlight 0x23#32 [.resetAssert, .complete]).seq = .busy ∧ (inFlight 0x23#32 [.resetAssert, .complete]).rst = false ∧
      (inFlight 0x23#32 [.resetAssert, .complete]).env = [.resetAssert, .complete] := by decide

theorem witness_ResetAbandons_lostRead :
    ({ withEnv [.read 0xFF#8 .byte] with rst := true } : State).rst = true ∧
      ({ withEnv [.read 0xFF#8 .byte] with rst := true } : State).env = [.read 0xFF#8 .byte] := by decide

theorem witness_ResetAbandons_lostWrite :
    ({ withEnv [.write 0x00#8 0xF#4 0#32] with rst := true } : State).rst = true ∧
      ({ withEnv [.write 0x00#8 0xF#4 0#32] with rst := true } : State).env = [.write 0x00#8 0xF#4 0#32] := by decide

/-- A configured, keyed and MAC-keyed core that is reset: all three clauses of OnlyResetUnconfigures. -/
theorem witness_OnlyReset :
    ∃ s t : State, step s = .next t ∧ (s.fieldValid = true ∧ t.fieldValid = false) ∧
      (keyValid s = true ∧ keyValid t = false) ∧ (macKeyed s = true ∧ macKeyed t = false) :=
  ⟨{ withMac 0 0 0 false with env := [.resetAssert], ksCR := 1, ksCVar := .mini }, _, rfl, by decide, by decide, by decide⟩

theorem witness_StepRuns_pending :
    (inFlight 0x23#32 [.complete]).rst = false ∧ (inFlight 0x23#32 [.complete]).seq = .busy ∧
      decode (inFlight 0x23#32 [.complete]).cur.word = some .ivCond ∧ (inFlight 0x23#32 [.complete]).env = [.complete] := by decide

theorem witness_StepRuns_quiet :
    (inFlight 0x00FFFF10#32 []).rst = false ∧ (inFlight 0x00FFFF10#32 []).seq = .busy ∧
      decode (inFlight 0x00FFFF10#32 []).cur.word = some (.keyLoadPresent 255 255) ∧ (inFlight 0x00FFFF10#32 []).env = [] := by decide

theorem witness_StepRuns_placed : decode (tableWord 32 0x00FF0011) = some (.keyLoadMini 255) := by decide

theorem witness_AcceptedCommandCompletes :
    (inFlight 0#32 [.clock, .read 0x04#8 .word, .resetRelease]).seq = .busy ∧
      (inFlight 0#32 [.clock, .read 0x04#8 .word, .resetRelease]).rst = false := by decide

theorem witness_BusyFromAccept_accept :
    (withEnv [.write 0x00#8 0xF#4 0#32]).rst = false ∧ (withEnv [.write 0x00#8 0xF#4 0#32]).seq = .idle := by decide

theorem witness_BusyFromAccept_between :
    (inFlight 0#32 [.resetRelease]).rst = false ∧ (inFlight 0#32 [.resetRelease]).seq = .busy ∧
      EnvStep.resetRelease ≠ .complete ∧ EnvStep.resetRelease ≠ .resetAssert := by decide

theorem witness_BusyFromAccept_completion :
    (inFlight 0xFFFFFFFF#32 [.complete]).rst = false ∧ (inFlight 0xFFFFFFFF#32 [.complete]).seq = .busy := by decide

theorem witness_BusyFromAccept_clock : (inFlight 0#32 [.clock]).rst = false ∧ (inFlight 0#32 [.clock]).env = [.clock] := by decide

theorem witness_Reserved_read_first :
    (withEnv [.read 0x5C#8 .word]).rst = false ∧ 0x5C ≤ (0x5C#8 : Offset).toNat ∧ (0x5C#8 : Offset).toNat % 4 = 0 := by decide

theorem witness_Reserved_write_last :
    (withEnv [.write 0xFC#8 0xF#4 1#32]).rst = false ∧ 0x5C ≤ (0xFC#8 : Offset).toNat ∧ (0xFC#8 : Offset).toNat % 4 = 0 := by decide

theorem witness_Refused_read :
    (withEnv [.read 0x01#8 .word]).rst = false ∧ (0x01#8 : Offset).toNat % 4 ≠ 0 ∧
      (withEnv [.read 0x04#8 .half]).rst = false ∧ AccessSize.half ≠ .word := by decide

theorem witness_Refused_write :
    (withEnv [.write 0xFF#8 0xF#4 0#32]).rst = false ∧ (0xFF#8 : Offset).toNat % 4 ≠ 0 ∧
      (withEnv [.write 0x00#8 0x7#4 0#32]).rst = false ∧ (0x7#4 : Strobes) ≠ 0xF#4 := by decide

theorem witness_Reads :
    (withEnv [.read (regOffset .cmd) .word, .read (regOffset .info2) .word]).rst = false ∧
      (withEnv [.read (regOffset .info2) .word]).env = [.read 0x58#8 .word] := by decide

theorem witness_ReadOnlyWrites_ignored :
    (withEnv [.write (regOffset .dout0) 0xF#4 1#32]).rst = false ∧
      Reg.dout0 ∈ [Reg.dout0, .dout1, .gfR, .fieldDeg, .fieldPoly, .macTag, .macHash, .ksRounds, .info, .info1, .info2] := by decide

theorem witness_ReadOnlyWrites_stored :
    (withEnv [.write 0x04#8 0xF#4 4#32]).rst = false ∧ (withEnv [.write 0x3C#8 0xF#4 0xFFFFFFFF#32]).rst = false ∧
      (withEnv [.write 0x40#8 0xF#4 0xFFFF0001#32]).rst = false := by decide

theorem witness_OperandWrites :
    ∀ off ∈ [0x08#8, 0x0C#8, 0x10#8, 0x14#8, 0x18#8, 0x1C#8, 0x28#8, 0x2C#8],
      (withEnv [.write off 0xF#4 0xFFFFFFFF#32]).rst = false ∧
        (withEnv [.write off 0xF#4 0xFFFFFFFF#32]).env = [.write off 0xF#4 0xFFFFFFFF#32] := by decide

theorem witness_CmdWrite_idle :
    (withEnv [.write 0x00#8 0xF#4 0#32]).rst = false ∧ (withEnv [.write 0x00#8 0xF#4 0#32]).seq = .idle := by decide

theorem witness_CmdWrite_busy :
    (inFlight 0#32 [.write 0x00#8 0xF#4 1#32]).rst = false ∧ (inFlight 0#32 [.write 0x00#8 0xF#4 1#32]).seq = .busy := by decide

theorem witness_CmdWrite_snapshot :
    ∃ t, step (inFlight 0#32 [.write 0x08#8 0xF#4 1#32]) = .next t ∧ t.key0 = 1#32 := ⟨_, rfl, rfl⟩

theorem witness_Overrun_status_write :
    ({ withEnv [.write 0x04#8 0xF#4 4#32] with ovr := true } : State).rst = false ∧ (4#32 : Word).getLsbD 2 = true ∧
      ({ withEnv [.write 0x04#8 0xF#4 0xFFFFFFFB#32] with ovr := true } : State).rst = false ∧
      (0xFFFFFFFB#32 : Word).getLsbD 2 = false := by decide

theorem witness_Overrun_reset : ({ withEnv [.resetAssert] with ovr := true } : State).env = [.resetAssert] := rfl

theorem witness_Overrun_set :
    ∃ t, step (inFlight 0#32 [.write 0x00#8 0xF#4 1#32]) = .next t ∧ (inFlight 0#32 [.write 0x00#8 0xF#4 1#32]).ovr = false ∧
      t.ovr = true := ⟨_, rfl, rfl, rfl⟩

theorem witness_Overrun_cleared :
    ∃ s t : State, step s = .next t ∧ s.ovr = true ∧ t.ovr = false :=
  ⟨{ withEnv [.write 0x04#8 0xF#4 4#32] with ovr := true }, _, rfl, rfl, by decide⟩

theorem witness_FailingCommands_error : errorOf .encrypt State.reset ≠ .ok := by decide

theorem witness_FailingCommands_each_completes :
    errorOf .nop State.reset = .ok ∧ errorOf (.gfConfigure 16) (withField 0 0 0x1FFFF 0) = .ok ∧
      errorOf .gfMul (withField 16 0x1100B 0 0) = .ok ∧ errorOf (.keyLoadPresent 16 32) State.reset = .ok ∧
      errorOf (.keyLoadMini 32) State.reset = .ok ∧ errorOf .encrypt (withSchedule .p80 [0] 0) = .ok ∧
      errorOf .decrypt (withSchedule .mini [0] 0) = .ok ∧ errorOf .macInit State.reset = .ok ∧
      errorOf .macStart (withMac 0 0 0 false) = .ok ∧ errorOf .macChunk (withMac 0 0 0 true) = .ok ∧
      errorOf .ivCond State.reset = .ok := by decide

theorem witness_CommandsWriteOnly :
    ∃ t, exec .gfMul (withField 16 0x1100B 1 1) = .next t ∧ WriteGroup.block ∉ writesOf .gfMul ∧
      regAt (0x23#8 &&& 0xFC#8) = some .dout0 ∧ Reg.dout0 ≠ .status ∧ ∀ g ∈ writesOf .gfMul, Reg.dout0 ∉ groupRegs g :=
  ⟨_, rfl, by decide, by decide, by decide, by decide⟩

theorem witness_Contexts_cipher :
    (∃ t, exec (.keyLoadPresent 10 32) (withMac 0 0 0 true) = .next t) ∧ (∃ t, exec (.keyLoadMini 0) (withMac 0 0 0 true) = .next t) ∧
      (∃ t, exec .encrypt (withSchedule .p128 [0] 0) = .next t) ∧ ∃ t, exec .decrypt (withSchedule .mini [0] 0) = .next t :=
  ⟨⟨_, rfl⟩, ⟨_, rfl⟩, ⟨_, rfl⟩, ⟨_, rfl⟩⟩

theorem witness_Contexts_mac :
    (∃ t, exec .macInit State.reset = .next t) ∧ (∃ t, exec .macStart (withMac 0 1 0 false) = .next t) ∧
      (∃ t, exec .macChunk (withMac 0 0 1 true) = .next t) ∧ ∃ t, exec .ivCond State.reset = .next t :=
  ⟨⟨_, rfl⟩, ⟨_, rfl⟩, ⟨_, rfl⟩, ⟨_, rfl⟩⟩

theorem witness_EveryStep : CoreInv State.reset ∧ ∃ t, step State.reset = .next t := ⟨reset_coreInv, _, rfl⟩

/-- Whatever keystream a MAC_START latches, some earlier value differs from it. -/
theorem witness_Keystream_macStart :
    ∃ s t : State, step s = .next t ∧ t.macGctr ≠ s.macGctr := by
  refine ⟨{ withMac (gctr Config.machine [0x00#8, 0xD5#8, 0x31#8, 0x84#8] 0x5341#16 + 1#16) 0x5341 0 false with
    seq := .busy, cur := { Accepted.reset with word := 0x21, macIv := 0x5341 } }, _, rfl, ?_⟩
  show gctr Config.machine [0x00#8, 0xD5#8, 0x31#8, 0x84#8] 0x5341#16 ≠
    gctr Config.machine [0x00#8, 0xD5#8, 0x31#8, 0x84#8] 0x5341#16 + 1#16
  generalize gctr Config.machine [0x00#8, 0xD5#8, 0x31#8, 0x84#8] 0x5341#16 = g
  bv_omega

theorem witness_Keystream_reset :
    ∃ s t : State, step s = .next t ∧ t.macGctr ≠ s.macGctr :=
  ⟨{ withMac 1 0 0 true with env := [.resetAssert] }, _, rfl, by decide⟩

theorem witness_GfConfigure_sets :
    (1 ≤ 1 ∧ 1 ≤ 16 ∧ 2 ^ 1 ≤ (0b11#32 : Word).toNat ∧ (0b11#32 : Word).toNat < 2 ^ 2) ∧
      (1 ≤ 16 ∧ 16 ≤ 16 ∧ 2 ^ 16 ≤ (0x1FFFF#32 : Word).toNat ∧ (0x1FFFF#32 : Word).toNat < 2 ^ 17) := by decide

theorem witness_GfConfigure_refuses :
    ¬(1 ≤ 0 ∧ 0 ≤ 16 ∧ 2 ^ 0 ≤ (1#32 : Word).toNat ∧ (1#32 : Word).toNat < 2 ^ 1) ∧
      ¬(1 ≤ 17 ∧ 17 ≤ 16 ∧ 2 ^ 17 ≤ (0x20000#32 : Word).toNat ∧ (0x20000#32 : Word).toNat < 2 ^ 18) := by decide

theorem witness_GfMul_configured :
    (withField 16 0x1100B 0xFFFF 0xFFFF).fieldValid = true ∧ FieldContextOk (withField 16 0x1100B 0xFFFF 0xFFFF) ∧
      ∃ t, exec .gfMul (withField 16 0x1100B 0xFFFF 0xFFFF) = .next t :=
  ⟨rfl, by simp only [FieldContextOk, withField]; decide, _, rfl⟩

theorem witness_GfMul_unconfigured : State.reset.fieldValid = false := rfl

/-- A sequence that follows a recurrence from its first term on. -/
def follow {α : Type} (f : Nat → α → α) (a : α) : Nat → α
  | 0 => a
  | 1 => a
  | n + 2 => f (n + 1) (follow f a (n + 1))

theorem follow_step {α : Type} (f : Nat → α → α) (a : α) (i : Nat) (h : 1 ≤ i) : follow f a (i + 1) = f i (follow f a i) := by
  cases i with
  | zero => omega
  | succ n => rfl

theorem witness_KeyLoadPresent_errors : (8 ≠ 10 ∧ 8 ≠ 16) ∧ (16 = 10 ∨ 16 = 16) ∧ 32 < 33 := by decide

theorem witness_KeyLoadPresent_p80 (key : KeyWord) :
    ∃ kreg : Nat → BitVec 80, kreg 1 = key.extractLsb' 0 80 ∧ ∀ i, 1 ≤ i → kreg (i + 1) = nextKregP80 i (kreg i) :=
  ⟨follow nextKregP80 (key.extractLsb' 0 80), rfl, fun i h => follow_step _ _ i h⟩

theorem witness_KeyLoadPresent_p128 (key : KeyWord) :
    ∃ kreg : Nat → BitVec 128, kreg 1 = key ∧ ∀ i, 1 ≤ i → kreg (i + 1) = nextKregP128 i (kreg i) :=
  ⟨follow nextKregP128 key, rfl, fun i h => follow_step _ _ i h⟩

theorem witness_KeyLoadMini (key : KeyWord) :
    ∃ kreg : Nat → Half, kreg 1 = key.extractLsb' 0 16 ∧ ∀ i, 1 ≤ i → kreg (i + 1) = nextKregMini Config.machine i (kreg i) :=
  ⟨follow (nextKregMini Config.machine) (key.extractLsb' 0 16), rfl, fun i h => follow_step _ _ i h⟩

theorem witness_Encrypt_noKey : State.reset.ksCR = 0#8 := rfl

/-- Two rounds of P80 on 0, the vector of TV 2.3. -/
theorem witness_Encrypt_present :
    ∃ (s : State) (st : Nat → Block) (last : Fin 32), s.ksCR ≠ 0#8 ∧ s.ksCR.toNat ≤ 32 ∧ s.ksCVar ≠ .mini ∧ st 0 = s.cur.din ∧
      (∀ i : Fin 32, i.val + 1 < s.ksCR.toNat → st (i.val + 1) = pLayer64 (sBoxLayer64 (st i.val ^^^ s.ksC[i]))) ∧
      last.val + 1 = s.ksCR.toNat :=
  ⟨withSchedule .p80 [0x0#64, 0xC000000000000000#64] 0, fun n => if n = 0 then 0 else 0xFFFFFFFF00000000#64, 1, by decide,
    by decide, by decide, by decide, by decide +kernel, by decide⟩

theorem witness_Encrypt_mini :
    ∃ (s : State) (st : Nat → Byte) (last : Fin 32), s.ksCR ≠ 0#8 ∧ s.ksCR.toNat ≤ 32 ∧ s.ksCVar = .mini ∧
      st 0 = s.cur.din.extractLsb' 0 8 ∧
      (∀ i : Fin 32, i.val + 1 < s.ksCR.toNat →
        st (i.val + 1) = pLayer8 Config.machine (sBoxLayer8 (st i.val ^^^ (s.ksC[i]).extractLsb' 0 8))) ∧
      last.val + 1 = s.ksCR.toNat := by
  refine ⟨withSchedule .mini [0x00#64, 0xC0#64] 0, fun n => if n = 0 then 0 else pLayer8 Config.machine (sBoxLayer8 0#8), 1,
    by decide, by decide, by decide, by decide, ?_, by decide⟩
  intro i hi
  have : i = 0 := by
    have : (withSchedule .mini [0x00#64, 0xC0#64] 0).ksCR.toNat = 2 := by decide
    omega
  subst this
  rfl

theorem witness_Decrypt_present :
    ∃ (s : State) (st : Nat → Block), s.ksCR ≠ 0#8 ∧ s.ksCR.toNat ≤ 32 ∧ s.ksCVar ≠ .mini ∧ st (s.ksCR.toNat - 1) = s.cur.din ∧
      ∀ i : Fin 32, 1 ≤ i.val → i.val < s.ksCR.toNat →
        st (i.val - 1) = sBoxLayerInv64 (pLayerInv64 (st i.val ^^^ s.ksC[i])) :=
  ⟨withSchedule .p80 [0x0#64, 0xC000000000000000#64] 0x3FFFFFFF00000000, fun n => if n = 0 then 0 else 0x3FFFFFFF00000000#64,
    by decide, by decide, by decide, by decide, by decide +kernel⟩

theorem witness_Decrypt_mini :
    ∃ (s : State) (st : Nat → Byte), s.ksCR ≠ 0#8 ∧ s.ksCR.toNat ≤ 32 ∧ s.ksCVar = .mini ∧
      st (s.ksCR.toNat - 1) = s.cur.din.extractLsb' 0 8 ∧
      ∀ i : Fin 32, 1 ≤ i.val → i.val < s.ksCR.toNat →
        st (i.val - 1) = sBoxLayerInv8 (pLayerInv8 Config.machine (st i.val ^^^ (s.ksC[i]).extractLsb' 0 8)) := by
  refine ⟨withSchedule .mini [0x00#64, 0xC0#64] 0x5A,
    fun n => if n = 0 then sBoxLayerInv8 (pLayerInv8 Config.machine (0x5A#8 ^^^ 0xC0#8)) else 0x5A#8,
    by decide, by decide, by decide, by decide, ?_⟩
  intro i h1 hi
  have : i = 1 := by
    have : (withSchedule .mini [0x00#64, 0xC0#64] 0x5A).ksCR.toNat = 2 := by decide
    omega
  subst this
  rfl

theorem witness_MacStart : State.reset.ksMacR = 0#8 ∧ (withMac 0 0xFF 0 false).ksMacR ≠ 0#8 := by decide

theorem witness_MacChunk :
    State.reset.macOpen = false ∧
      (({ State.reset with macOpen := true } : State).macOpen = true ∧ ({ State.reset with macOpen := true } : State).fieldValid = false) ∧
      ((withMac 0 0 0 true).macOpen = true ∧ (withMac 0 0 0 true).fieldValid = true) := by decide

theorem witness_MacStateMachine :
    macKeyed State.reset = false ∧ macKeyed (withMac 0 0 0 false) = true ∧ (withMac 0 0 0 false).macOpen = false ∧
      (withMac 0 0 0 true).macOpen = true := by decide

theorem witness_UnreadBits_mini :
    ((0x100EB#128 : KeyWord).extractLsb' 0 16 = (withKey 0xEB).cur.key.extractLsb' 0 16) ∧
      (∃ t u, exec (.keyLoadMini 32) (withKey 0xEB) = .next t ∧
        exec (.keyLoadMini 32) { withKey 0xEB with cur := { (withKey 0xEB).cur with key := 0x100EB } } = .next u) ∧
      ∃ t u, exec .macInit (withKey 0xEB) = .next t ∧
        exec .macInit { withKey 0xEB with cur := { (withKey 0xEB).cur with key := 0x100EB } } = .next u :=
  ⟨by decide, ⟨_, _, rfl, rfl⟩, _, _, rfl, rfl⟩

theorem witness_UnreadBits_p80 :
    ((1#128 <<< 80 : KeyWord).extractLsb' 0 80 = (withKey 0).cur.key.extractLsb' 0 80) ∧
      ∃ t u, exec (.keyLoadPresent 10 0) (withKey 0) = .next t ∧
        exec (.keyLoadPresent 10 0) { withKey 0 with cur := { (withKey 0).cur with key := 1#128 <<< 80 } } = .next u :=
  ⟨by decide, _, _, rfl, rfl⟩

theorem witness_UnreadBits_din :
    (0x1A5#64 : Block).extractLsb' 0 8 = (withSchedule .mini [0] 0xA5).cur.din.extractLsb' 0 8 ∧
      (withSchedule .mini [0] 0xA5).ksCVar = .mini ∧ (∃ t, exec .encrypt (withSchedule .mini [0] 0xA5) = .next t) ∧
      ∃ t, exec .decrypt (withSchedule .mini [0] 0xA5) = .next t :=
  ⟨by decide, by decide, ⟨_, rfl⟩, _, rfl⟩

theorem witness_DecryptUndoesEncrypt :
    (withSchedule .mini [0] 0x1A5).ksCR ≠ 0#8 ∧ (withSchedule .p80 [0, 0] 5).ksCR ≠ 0#8 ∧
      (∃ t u, exec .encrypt (withSchedule .p80 [0, 0] 5) = .next t ∧
        exec .decrypt { t with cur := { t.cur with din := doutOf t } } = .next u) ∧
      ∃ t u, exec .decrypt (withSchedule .mini [0] 0x1A5) = .next t ∧
        exec .encrypt { t with cur := { t.cur with din := doutOf t } } = .next u :=
  ⟨by decide, by decide, ⟨_, _, rfl, rfl⟩, _, _, rfl, rfl⟩

theorem witness_GfMul_degrees : (1 ≤ 1 ∧ 1 ≤ 16) ∧ (1 ≤ 16 ∧ 16 ≤ 16) := by decide

theorem witness_GfMulFieldLaws : 1 ≤ 3 ∧ 0 < 2 ^ 3 ∧ 7 < 2 ^ 3 ∧ 5 < 2 ^ 3 := by decide

theorem witness_GfMulOutside : 1 ≤ 3 ∧ 0b011 % 2 ^ 3 = 0b1011 % 2 ^ 3 := by decide

theorem witness_MacHash :
    (withMac 0xF0DD 0 0 true).macOpen = true ∧ (withMac 0xF0DD 0 0 true).fieldValid = true ∧
      FieldContextOk (withMac 0xF0DD 0 0 true) ∧ (withMac 0xF0DD 0 0 true).macHash = 0#16 :=
  ⟨rfl, rfl, by simp only [FieldContextOk, withMac]; decide, rfl⟩

theorem witness_LeadingZeroChunks :
    (withMac 0xF0DD 0 0 true).macHash = 0#16 ∧
      (∃ t, absorbChunks (List.replicate 1 0#16 ++ [0x4607#16]) (withMac 0xF0DD 0 0 true) = .next t) ∧
      ∃ u, absorbChunks [0x4607#16] (withMac 0xF0DD 0 0 true) = .next u :=
  ⟨rfl, ⟨_, rfl⟩, _, rfl⟩

theorem witness_ZeroHashKey :
    ({ withMac 0xF0DD 0 1 true with macH := 0 } : State).macOpen = true ∧
      ({ withMac 0xF0DD 0 1 true with macH := 0 } : State).fieldValid = true ∧
      ({ withMac 0xF0DD 0 1 true with macH := 0 } : State).macH = 0#8 := by decide

theorem witness_DatapathLatency : CoreInv State.reset ∧ State.reset.work.fsm = .ready := ⟨reset_coreInv, rfl⟩

/-- A command word in CUR. -/
def withWord (w : Word) (s : State) : State := { s with cur := { s.cur with word := w } }

/-- A MAC key whose hash key is the one the machine derives. -/
def keyedMac (s : State) : State := { s with macH := hashKey Config.machine (macSchedule s) }

/-- What each clause of DatapathStagesTheResult asks of a state and its command. -/
def StagesHypotheses (i : Instr) (s : State) : Prop :=
  CoreInv s ∧ s.work.fsm = .ready ∧ decode s.cur.word = some i ∧ errorOf i s = .ok ∧ ∃ t, exec i s = .next t

theorem witness_DatapathStages_gfMul : StagesHypotheses .gfMul (withWord 0x02 (withField 16 0x1100B 3 5)) := by
  refine ⟨?_, rfl, by decide, by decide, _, rfl⟩
  constructor <;> simp [withWord, withField, State.reset, FieldContextOk, validSchedule, doutOf]

theorem witness_DatapathStages_encrypt : StagesHypotheses .encrypt (withWord 0x12 (withSchedule .p80 [0, 1] 5)) := by
  refine ⟨?_, rfl, by decide, by decide, _, rfl⟩
  constructor <;> simp [withWord, withSchedule, installSchedule, State.reset, FieldContextOk, validSchedule, doutOf, Config.roundsMax]

theorem witness_DatapathStages_decrypt : StagesHypotheses .decrypt (withWord 0x13 (withSchedule .p128 [0, 1] 5)) := by
  refine ⟨?_, rfl, by decide, by decide, _, rfl⟩
  constructor <;> simp [withWord, withSchedule, installSchedule, State.reset, FieldContextOk, validSchedule, doutOf, Config.roundsMax]

theorem witness_DatapathStages_keyLoads :
    StagesHypotheses (.keyLoadPresent 16 32) (withWord 0x00201010 State.reset) ∧
      StagesHypotheses (.keyLoadMini 0) (withWord 0x11 State.reset) := by
  refine ⟨⟨?_, rfl, by decide, by decide, _, rfl⟩, ?_, rfl, by decide, by decide, _, rfl⟩ <;>
    constructor <;> simp [withWord, State.reset, FieldContextOk, validSchedule, doutOf]

theorem witness_DatapathStages_macInit : StagesHypotheses .macInit (withWord 0x20 State.reset) := by
  refine ⟨?_, rfl, by decide, by decide, _, rfl⟩
  constructor <;> simp [withWord, State.reset, FieldContextOk, validSchedule, doutOf]

theorem witness_DatapathStages_macStart : StagesHypotheses .macStart (withWord 0x21 (keyedMac (withMac 0 0x5341 0 false))) := by
  refine ⟨?_, rfl, by decide, by decide, _, rfl⟩
  constructor <;> simp [withWord, keyedMac, withMac, State.reset, FieldContextOk, validSchedule, doutOf, macSchedule]

theorem witness_DatapathStages_macChunk : StagesHypotheses .macChunk (withWord 0x22 (keyedMac (withMac 1 0 0x4607 true))) := by
  refine ⟨?_, rfl, by decide, by decide, _, rfl⟩
  constructor <;> simp [withWord, keyedMac, withMac, State.reset, FieldContextOk, validSchedule, doutOf, macSchedule]

end Sys2Proof.Tests
end

section
/-! SUPPORT. The core's invariant: reset establishes it, and every step keeps it. -/

namespace Sys2Proof.StateProofs

open Sys2Proof Sys2Proof.Machine Sys2Proof.Laws

/-- A number that fits n bits is read back from them. -/
theorem toNat_ofNat_of_lt {n v : Nat} (hv : v < 2 ^ n) : (BitVec.ofNat n v).toNat = v := by
  rw [BitVec.toNat_ofNat, Nat.mod_eq_of_lt hv]

/-! ### The invariant at reset and under the updates of the commands -/

/-- Reset establishes the invariant from any state (70_reset_and_hazards.md R320). -/
theorem coreInv_resetValues (level : Bool) (s : State) : CoreInv (resetValues level s) where
  errMatchesCode := by simp
  noHostError := by simp
  variantMatchesRounds := by simp
  roundsInFile := by simp
  miniEntriesNarrow := by simp
  macRounds := .inl rfl
  macHashKey hkeyed := absurd rfl hkeyed
  openIsKeyed := by simp
  fieldContext := ⟨rfl, rfl⟩
  noProductBefore _ := ⟨rfl, rfl, rfl⟩
  noBlockBefore _ := by simp [doutOf]
  resetIsIdle _ := rfl

theorem coreInv_completed {s : State} (hi : CoreInv s) : CoreInv (completed s) :=
  { hi with
    errMatchesCode := by simp
    noHostError := by simp
    resetIsIdle := fun _ => rfl }

/-- An error of the core keeps the invariant: its code is neither 0 nor the host's (60_exceptions.md R281, R284). -/
theorem coreInv_failed {s : State} {e : ErrCode} (hi : CoreInv s) (hok : e ≠ .ok) (hhost : e ≠ .malformedBlockInput) :
    CoreInv (failed e s) :=
  { hi with
    errMatchesCode := by simp [hok]
    noHostError := hhost
    resetIsIdle := fun _ => rfl }

/-- The check of GF_CONFIGURE is what the invariant asks of the field context it installs (40_gf_multiplier.md R140). -/
theorem fieldContextOk_of_fieldParamsOk {m : Nat} {p : Word} (hk : fieldParamsOk m p = true) (s : State) :
    FieldContextOk { s with fieldDeg := BitVec.ofNat 8 m, fieldPoly := p, fieldValid := true } := by
  simp only [fieldParamsOk, Bool.and_eq_true, decide_eq_true_eq, beq_iff_eq] at hk
  obtain ⟨⟨⟨hpos, hmax⟩, htop⟩, habove⟩ := hk
  have hm : (BitVec.ofNat 8 m).toNat = m := toNat_ofNat_of_lt (hmax.trans_lt (by decide))
  simp only [FieldContextOk, if_true, hm]
  exact ⟨hpos, hmax, htop, habove⟩

theorem coreInv_setField {s : State} {m : Nat} {p : Word} (hi : CoreInv s) (hk : fieldParamsOk m p = true) :
    CoreInv { s with fieldDeg := BitVec.ofNat 8 m, fieldPoly := p, fieldValid := true } :=
  { hi with
    fieldContext := fieldContextOk_of_fieldParamsOk hk s
    noProductBefore := fun hf => nomatch hf }

theorem coreInv_setProduct {s : State} (r : GfWord) (hi : CoreInv s) (hf : s.fieldValid = true) :
    CoreInv { s with gfR := r } :=
  { hi with noProductBefore := fun hn => absurd hn (by simp [hf]) }

/-- The entries a key load installs fit the bytes of a Mini schedule when the variant is MINI (41_cipher.md R181). -/
theorem scheduleC_mini_narrow {cfg : Config} {key : KeyWord} {rounds : Nat} {k : Block}
    (hk : k ∈ scheduleC cfg .mini key rounds) : k.toNat < 256 := by
  obtain ⟨b, -, rfl⟩ := List.mem_map.mp hk
  rw [BitVec.toNat_setWidth_of_le (by omega)]
  exact b.isLt

/-- A key load that passes its checks keeps the invariant: 1 to 32 entries, and a variant (10_state.md R55). -/
theorem coreInv_keyLoad {s : State} {v : Variant} (cfg : Config) (key : KeyWord) {rounds : Nat} (hi : CoreInv s)
    (hv : v ≠ .noKey) (hpos : 0 < rounds) (hmax : rounds ≤ Config.roundsMax) :
    CoreInv (installSchedule v (scheduleC cfg v key rounds) s) := by
  have hlen : (scheduleC cfg v key rounds).length = rounds := scheduleC_length cfg v key rounds hv
  have hcount : (installSchedule v (scheduleC cfg v key rounds) s).ksCR.toNat = rounds := by
    rw [installSchedule_ksCR, hlen, toNat_ofNat_of_lt (hmax.trans_lt (by decide))]
  have hloaded : (installSchedule v (scheduleC cfg v key rounds) s).ksCR ≠ 0#8 := by
    intro h0
    rw [h0] at hcount
    exact absurd hcount (by simp; omega)
  exact
    { hi with
      variantMatchesRounds := iff_of_false hv hloaded
      roundsInFile := hcount.trans_le hmax
      miniEntriesNarrow := fun hmini k hk => by
        obtain rfl : v = .mini := hmini
        rw [validSchedule_installSchedule _ _ _ (hlen.trans_le hmax)] at hk
        exact scheduleC_mini_narrow hk
      noBlockBefore := fun h0 => absurd h0 hloaded }

theorem coreInv_writeDout {s : State} (b : Block) (hi : CoreInv s) (hloaded : s.ksCR ≠ 0#8) : CoreInv (writeDout b s) :=
  { hi with noBlockBefore := fun h0 => absurd h0 hloaded }

/-- MAC_INIT keeps the invariant: its schedule fills KS_MAC, so MAC_H is the hash key of the file (42_mac.md R231, R240). -/
theorem coreInv_macKey {s : State} {ks : List Byte} (hi : CoreInv s) (hlen : ks.length = Config.miniDefaultRounds) :
    CoreInv { s with
      ksMac := fileWrite s.ksMac ks
      ksMacR := BitVec.ofNat 8 Config.miniDefaultRounds
      macH := hashKey Config.machine ks
      macOpen := false } :=
  { hi with
    macRounds := .inr rfl
    macHashKey := fun _ => congrArg (hashKey Config.machine) (fileWrite_toList_full s.ksMac ks hlen).symm
    openIsKeyed := fun hopen => nomatch hopen }

theorem coreInv_openMessage {s : State} (g : Half) (hi : CoreInv s) (hkeyed : s.ksMacR ≠ 0#8) :
    CoreInv { s with macGctr := g, macHash := 0#16, macTag := 0#16, macOpen := true } :=
  { hi with
    openIsKeyed := fun _ => hkeyed
    noProductBefore := fun hf => (hi.noProductBefore hf).imp_right fun _ => ⟨rfl, rfl⟩ }

theorem coreInv_setHash {s : State} (h tag : GfWord) (hi : CoreInv s) (hf : s.fieldValid = true) :
    CoreInv { s with macHash := h, macTag := tag } :=
  { hi with noProductBefore := fun hn => absurd hn (by simp [hf]) }

/-! ### The invariant under a completion -/

/-- Every command's meaning keeps the invariant, whether it succeeds or raises an error. -/
theorem coreInv_exec {i : Instr} {s t : State} (hi : CoreInv s) (h : exec i s = .next t) : CoreInv t := by
  cases i with
  | nop =>
    rw [execNop_cases h]
    exact coreInv_completed hi
  | gfConfigure m =>
    obtain ⟨hk, rfl⟩ | ⟨-, rfl⟩ := execGfConfigure_cases h
    · exact coreInv_completed (coreInv_setField hi hk)
    · exact coreInv_failed hi (by decide) (by decide)
  | gfMul =>
    obtain ⟨-, rfl⟩ | ⟨hf, rfl⟩ := execGfMul_cases h
    · exact coreInv_failed hi (by decide) (by decide)
    · exact coreInv_completed (coreInv_setProduct _ hi hf)
  | keyLoadPresent klen rounds =>
    obtain ⟨-, rfl⟩ | ⟨-, -, rfl⟩ | ⟨-, hr, rfl⟩ := execKeyLoadPresent_cases h
    · exact coreInv_failed hi (by decide) (by decide)
    · exact coreInv_failed hi (by decide) (by decide)
    · have hv : presentVariant klen ≠ .noKey := by unfold presentVariant; split <;> decide
      exact coreInv_completed (coreInv_keyLoad _ _ hi hv (roundCount_pos _ _ (by decide)) (roundCount_le _ _ hr (by decide)))
  | keyLoadMini rounds =>
    obtain ⟨-, rfl⟩ | ⟨hr, rfl⟩ := execKeyLoadMini_cases h
    · exact coreInv_failed hi (by decide) (by decide)
    · exact coreInv_completed
        (coreInv_keyLoad _ _ hi (by decide) (roundCount_pos _ _ (by decide)) (roundCount_le _ _ hr (by decide)))
  | encrypt =>
    obtain ⟨-, rfl⟩ | ⟨hloaded, rfl⟩ := execEncrypt_cases h
    · exact coreInv_failed hi (by decide) (by decide)
    · exact coreInv_completed (coreInv_writeDout _ hi hloaded)
  | decrypt =>
    obtain ⟨-, rfl⟩ | ⟨hloaded, rfl⟩ := execDecrypt_cases h
    · exact coreInv_failed hi (by decide) (by decide)
    · exact coreInv_completed (coreInv_writeDout _ hi hloaded)
  | macInit =>
    rw [execMacInit_cases h]
    exact coreInv_completed (coreInv_macKey hi (miniSchedule_length _ _ _))
  | macStart =>
    obtain ⟨-, rfl⟩ | ⟨hkeyed, rfl⟩ := execMacStart_cases h
    · exact coreInv_failed hi (by decide) (by decide)
    · exact coreInv_completed (coreInv_openMessage _ hi hkeyed)
  | macChunk =>
    obtain ⟨-, rfl⟩ | ⟨-, -, rfl⟩ | ⟨-, hf, rfl⟩ := execMacChunk_cases h
    · exact coreInv_failed hi (by decide) (by decide)
    · exact coreInv_failed hi (by decide) (by decide)
    · exact coreInv_completed (coreInv_setHash _ _ hi hf)
  | ivCond =>
    rw [execIvCond_cases h]
    exact coreInv_completed { hi with }

/-- A completion keeps the invariant, an illegal word's among them (30_encoding.md R114). -/
theorem coreInv_completeAccepted {s t : State} (hi : CoreInv s) (h : completeAccepted s = .next t) : CoreInv t := by
  obtain ⟨i, -, hexec⟩ | ⟨-, rfl⟩ := completeAccepted_cases h
  · exact coreInv_exec hi hexec
  · exact coreInv_failed hi (by decide) (by decide)

/-! ### The invariant under the environment's steps -/

/-- No clause speaks of the pending steps. -/
theorem coreInv_setEnv {s : State} (env : List EnvStep) (hi : CoreInv s) : CoreInv { s with env := env } := { hi with }

theorem coreInv_respond {s : State} (r : BusResponse) (hi : CoreInv s) : CoreInv (respond r s) := { hi with }

/-- A write of the window reaches no register of the invariant but SEQ, and out of reset SEQ is free (20_memory.md R90, R91). -/
theorem coreInv_windowWrite {s : State} (off : Offset) (v : Word) (hi : CoreInv s) (hr : s.rst = false) :
    CoreInv (windowWrite off v s) where
  errMatchesCode := by simpa using hi.errMatchesCode
  noHostError := by simpa using hi.noHostError
  variantMatchesRounds := by simpa using hi.variantMatchesRounds
  roundsInFile := by simpa using hi.roundsInFile
  miniEntriesNarrow := by simpa [validSchedule] using hi.miniEntriesNarrow
  macRounds := by simpa using hi.macRounds
  macHashKey := by simpa [macSchedule] using hi.macHashKey
  openIsKeyed := by simpa using hi.openIsKeyed
  fieldContext := by simpa [FieldContextOk] using hi.fieldContext
  noProductBefore := by simpa using hi.noProductBefore
  noBlockBefore := by simpa [doutOf] using hi.noBlockBefore
  resetIsIdle := by simp [hr]

theorem coreInv_hostWrite {s : State} (off : Offset) (strobes : Strobes) (v : Word) (hi : CoreInv s) (hr : s.rst = false) :
    CoreInv (hostWrite off strobes v s) := by
  unfold hostWrite
  split
  · exact coreInv_respond _ (coreInv_windowWrite off v hi hr)
  · exact coreInv_respond _ hi

theorem coreInv_clockCycle {s : State} (cfg : Config) (hi : CoreInv s) : CoreInv (clockCycle cfg s) := by
  obtain ⟨work, hclock⟩ := clockCycle_eq cfg s
  rw [hclock]
  exact { hi with }

/-- A step while reset is asserted loses the access or writes the reset values (70_reset_and_hazards.md R320, R322). -/
theorem coreInv_stepInReset {s : State} (e : EnvStep) (hi : CoreInv s) : CoreInv (stepInReset e s) := by
  cases e with
  | read off size => exact coreInv_respond _ hi
  | write off strobes v => exact coreInv_respond _ { hi with }
  | complete => exact hi
  | clock => exact hi
  | resetAssert => exact coreInv_resetValues true s
  | resetRelease => exact coreInv_resetValues false s

/-- Every step keeps the invariant. -/
theorem coreInv_step {s t : State} (hi : CoreInv s) (h : step s = .next t) : CoreInv t := by
  cases step_case h with
  | hold _ _ ht => exact ht ▸ hi
  | quietCompletion _ _ _ ht => exact coreInv_completeAccepted hi ht
  | inReset e rest _ _ ht => exact ht ▸ coreInv_stepInReset e (coreInv_setEnv rest hi)
  | read off size rest _ _ ht => exact ht ▸ coreInv_respond _ (coreInv_setEnv rest hi)
  | write off strobes v rest _ hr ht => exact ht ▸ coreInv_hostWrite off strobes v (coreInv_setEnv rest hi) hr
  | completionIdle rest _ _ _ ht => exact ht ▸ coreInv_setEnv rest hi
  | completion rest _ _ _ ht => exact coreInv_completeAccepted (coreInv_setEnv rest hi) ht
  | clock rest _ _ ht => exact ht ▸ coreInv_clockCycle _ (coreInv_setEnv rest hi)
  | resetAssert rest _ _ ht => exact ht ▸ coreInv_resetValues true _
  | releaseIgnored rest _ _ ht => exact ht ▸ coreInv_setEnv rest hi

/-- Settles O26: each command's update keeps the invariant, and so does each of the environment's steps. -/
theorem everyStepKeepsTheInvariant : Obligations.EveryStepKeepsTheInvariant := fun _ _ hi h => coreInv_step hi h

/-- Settles O25: State.reset is the state that reset leaves of itself. -/
theorem invariantHoldsAtReset : Obligations.InvariantHoldsAtReset := coreInv_resetValues false State.reset

end Sys2Proof.StateProofs
end

section
/-! SUPPORT. The fields of STATUS and of the identification registers (10_state.md R33, R52 to R54). -/

namespace Sys2Proof.StateProofs

open Sys2Proof Sys2Proof.Machine Sys2Proof.Laws

/-! ### The fields of a register -/

/-- A one-bit field is a field that holds 0 or 1. -/
theorem bitAt_eq_fieldAt (b : Bool) (k : Nat) : bitAt b k = fieldAt b.toNat k := by
  cases b with
  | false => simp [bitAt, fieldAt]
  | true =>
    apply BitVec.eq_of_toNat_eq
    simp [bitAt, fieldAt, Nat.shiftLeft_eq]

theorem getLsbD_fieldAt (v k j : Nat) :
    (fieldAt v k).getLsbD j = (decide (j < 32) && decide (k ≤ j) && v.testBit (j - k)) := by
  have hle : (!decide (j < k)) = decide (k ≤ j) := by rw [← decide_not]; simp only [Nat.not_lt]
  rw [fieldAt, BitVec.getLsbD_shiftLeft, BitVec.getLsbD_ofNat, hle]
  by_cases hj : j < 32
  · simp [hj, show j - k < 32 by omega]
  · simp [hj]

/-- A field of n bits, none of them among the bits read, reads 0. -/
theorem extractLsb'_fieldAt_of_disjoint {v k n start len : Nat} (hv : v < 2 ^ n) (hdisj : start + len ≤ k ∨ k + n ≤ start) :
    (fieldAt v k).extractLsb' start len = 0#len := by
  apply BitVec.eq_of_getLsbD_eq
  intro j hj
  simp only [BitVec.getLsbD_extractLsb', getLsbD_fieldAt, BitVec.getLsbD_zero]
  obtain hlow | hhigh := hdisj
  · simp [show ¬k ≤ start + j by omega]
  · have hbit : v.testBit (start + j - k) = false :=
      Nat.testBit_lt_two_pow (hv.trans_le (Nat.pow_le_pow_right (by decide) (by omega)))
    simp [hbit]

/-- A field of n bits reads back, at its own bits, the value it holds. -/
theorem extractLsb'_fieldAt_self {v k n : Nat} (hword : k + n ≤ 32) : (fieldAt v k).extractLsb' k n = BitVec.ofNat n v := by
  apply BitVec.eq_of_getLsbD_eq
  intro j hj
  rw [BitVec.getLsbD_extractLsb', getLsbD_fieldAt, BitVec.getLsbD_ofNat, Nat.add_sub_cancel_left]
  simp [show k + j < 32 by omega]

theorem errNumber_lt (e : ErrCode) : errNumber e < 2 ^ 4 := by cases e <;> decide

theorem variantNumber_lt (v : Variant) : variantNumber v < 2 ^ 2 := by cases v <;> decide

theorem implNumber_lt (m : MultImpl) : implNumber m < 2 ^ 2 := by cases m <;> decide

theorem gctrNumber_lt (g : GctrByteLoop) : gctrNumber g < 2 ^ 1 := by cases g <;> decide

theorem ksNibbles_lt (n : MiniKsNibbles) : n.count - 1 < 2 ^ 1 := by cases n <;> decide

theorem pipeField_lt (cfg : Config) : pipeField cfg < 2 ^ 8 := by
  unfold pipeField
  split <;> omega

/-! ### STATUS -/

/-- A field of STATUS above the one-bit ones is read from ERRCODE and KVAR alone (10_state.md R33). -/
theorem extractLsb'_statusWord (s : State) {start len : Nat} (hstart : 7 ≤ start) :
    (statusWord s).extractLsb' start len =
      (fieldAt (errNumber s.errCode) 8).extractLsb' start len ||| (fieldAt (variantNumber s.ksCVar) 12).extractLsb' start len := by
  have hbit (b : Bool) {k : Nat} (hk : k < 7) : (bitAt b k).extractLsb' start len = 0#len := by
    rw [bitAt_eq_fieldAt]
    exact extractLsb'_fieldAt_of_disjoint (n := 1) b.toNat_lt (.inr (by omega))
  simp [statusWord, BitVec.extractLsb'_or, hbit]

/-- The one-bit fields of STATUS stand at bits 0 to 6, and bit 7 is 0 (10_state.md R33). -/
theorem getLsbD_statusWord (s : State) {k : Nat} (hk : k < 8) :
    (statusWord s).getLsbD k =
      [busyFlag s, s.err, s.ovr, s.fieldValid, keyValid s, macKeyed s, s.macOpen, false].getD k false := by
  simp only [statusWord, bitAt_eq_fieldAt, BitVec.getLsbD_or, getLsbD_fieldAt, Nat.testBit_bool_toNat]
  interval_cases k <;> simp

/-- STATUS bit 0 is SEQ (10_state.md R33, R34). -/
theorem status_bit_zero (cfg : Config) (s : State) : (readReg cfg s .status).getLsbD 0 = decide (s.seq = .busy) :=
  getLsbD_statusWord s (by decide)

/-- Settles O20: bit by bit below ERRCODE, and field by field from there. -/
theorem statusFieldsAtTheirBits : Obligations.StatusFieldsAtTheirBits := by
  intro s
  have hbit {k : Nat} (hk : k < 8) := getLsbD_statusWord s hk
  have hflag {k : Nat} {p : Prop} [Decidable p] (h : (statusWord s).getLsbD k = decide p) :
      (statusWord s).getLsbD k = true ↔ p := by
    rw [h, decide_eq_true_iff]
  have hcode := errNumber_lt s.errCode
  have hvar := variantNumber_lt s.ksCVar
  refine ⟨hflag (hbit (by decide)), hbit (by decide), hbit (by decide), hbit (by decide), hflag (hbit (by decide)),
    hflag (hbit (by decide)), hbit (by decide), hbit (by decide), ?_, ?_, ?_⟩
  · rw [extractLsb'_statusWord s (by decide), extractLsb'_fieldAt_self (by decide),
      extractLsb'_fieldAt_of_disjoint hvar (by decide), BitVec.or_zero, toNat_ofNat_of_lt hcode]
  · rw [extractLsb'_statusWord s (by decide), extractLsb'_fieldAt_self (by decide),
      extractLsb'_fieldAt_of_disjoint hcode (by decide), BitVec.zero_or, toNat_ofNat_of_lt hvar]
  · rw [extractLsb'_statusWord s (by decide), extractLsb'_fieldAt_of_disjoint hcode (by decide),
      extractLsb'_fieldAt_of_disjoint hvar (by decide), BitVec.or_zero]

/-! ### INFO, INFO1 and INFO2 -/

/-- A bit is set when the one-bit field at its place is 1. -/
theorem getLsbD_eq_true_iff_extractLsb' (x : Word) (k : Nat) : x.getLsbD k = true ↔ x.extractLsb' k 1 = 1#1 := by
  cases hk : x.getLsbD k <;> simp [BitVec.eq_of_getLsbD_eq_iff, hk]

/-- INFO field by field (10_state.md R52). -/
theorem infoWord_fields (cfg : Config) :
    (infoWord cfg).extractLsb' 0 8 = 16#8 ∧ (infoWord cfg).extractLsb' 8 8 = 32#8 ∧
      (infoWord cfg).extractLsb' 16 2 = BitVec.ofNat 2 (implNumber cfg.multImpl) ∧
      (infoWord cfg).extractLsb' 18 1 = BitVec.ofNat 1 (gctrNumber cfg.gctrLoop) ∧
      (infoWord cfg).extractLsb' 19 1 = BitVec.ofNat 1 (cfg.ksNibbles.count - 1) ∧
      (infoWord cfg).extractLsb' 20 4 = 0#4 ∧ (infoWord cfg).extractLsb' 24 8 = 1#8 := by
  have hgf : Config.gfMMax < 2 ^ 8 := by decide
  have hrounds : Config.roundsMax < 2 ^ 8 := by decide
  have hversion : Config.version < 2 ^ 8 := by decide
  simp (disch := omega) [infoWord, BitVec.extractLsb'_or, extractLsb'_fieldAt_self, extractLsb'_fieldAt_of_disjoint hgf,
    extractLsb'_fieldAt_of_disjoint hrounds, extractLsb'_fieldAt_of_disjoint (implNumber_lt _),
    extractLsb'_fieldAt_of_disjoint (gctrNumber_lt _), extractLsb'_fieldAt_of_disjoint (ksNibbles_lt _),
    extractLsb'_fieldAt_of_disjoint hversion]

/-- INFO1 field by field (10_state.md R53). -/
theorem infoOneWord_fields (cfg : Config) :
    (infoOneWord cfg).extractLsb' 0 8 = 32#8 ∧ (infoOneWord cfg).extractLsb' 8 8 = 4#8 ∧
      (infoOneWord cfg).extractLsb' 16 4 = BitVec.ofNat 4 cfg.saltShift.val ∧ (infoOneWord cfg).extractLsb' 20 4 = 0#4 ∧
      (infoOneWord cfg).extractLsb' 24 8 = BitVec.ofNat 8 (pipeField cfg) := by
  have hpresent : Config.presentDefaultRounds < 2 ^ 8 := by decide
  have hmini : Config.miniDefaultRounds < 2 ^ 8 := by decide
  have hsalt : cfg.saltShift.val < 2 ^ 4 := cfg.saltShift.isLt
  simp (disch := omega) [infoOneWord, BitVec.extractLsb'_or, extractLsb'_fieldAt_self,
    extractLsb'_fieldAt_of_disjoint hpresent, extractLsb'_fieldAt_of_disjoint hmini, extractLsb'_fieldAt_of_disjoint hsalt,
    extractLsb'_fieldAt_of_disjoint (pipeField_lt _)]

/-- A bit of INFO2 is a bit of the one three-bit entry that stands there (10_state.md R54). -/
theorem getLsbD_infoTwoWord (cfg : Config) (n : Nat) :
    (infoTwoWord cfg).getLsbD n = if h : n / 3 < 8 then (cfg.miniPBox ⟨n / 3, h⟩).val.testBit (n % 3) else false := by
  have hentry (i : Fin 8) {k : Nat} (hk : 3 ≤ k) : (cfg.miniPBox i).val.testBit k = false := by
    have hlt : (cfg.miniPBox i).val < 2 ^ 3 := (cfg.miniPBox i).isLt
    exact Nat.testBit_lt_two_pow (hlt.trans_le (Nat.pow_le_pow_right (by decide) hk))
  have hbit (i : Fin 8) : (fieldAt (cfg.miniPBox i).val (3 * i.val)).getLsbD n =
      (decide (i.val = n / 3) && (cfg.miniPBox i).val.testBit (n % 3)) := by
    rw [getLsbD_fieldAt]
    obtain hlt | heq | hgt := Nat.lt_trichotomy i.val (n / 3)
    · simp [hentry i (show 3 ≤ n - 3 * i.val by omega), hlt.ne]
    · simp [heq, show n < 32 by omega, show 3 * (n / 3) ≤ n by omega, show n - 3 * (n / 3) = n % 3 by omega]
    · simp [show ¬3 * i.val ≤ n by omega, hgt.ne']
  rw [infoTwoWord, getLsbD_foldl_or, BitVec.getLsbD_zero, Bool.false_or]
  simp only [hbit]
  split
  · next h =>
    rw [Bool.eq_iff_iff]
    simp only [List.any_eq_true, List.mem_finRange, true_and, Bool.and_eq_true, decide_eq_true_eq]
    exact ⟨fun ⟨i, hi, hset⟩ => by simpa [← hi] using hset, fun hset => ⟨⟨n / 3, h⟩, rfl, hset⟩⟩
  · next h =>
    simp only [List.any_eq_false, Bool.and_eq_true, decide_eq_true_eq]
    intro i _ hi
    omega

/-- INFO2 holds MINI_PBOX[i] at bits 3i+2 to 3i (10_state.md R54). -/
theorem infoTwoWord_entry (cfg : Config) (i : Fin 8) :
    ((infoTwoWord cfg).extractLsb' (3 * i.val) 3) = BitVec.ofNat 3 (cfg.miniPBox i).val := by
  apply BitVec.eq_of_getLsbD_eq
  intro j hj
  rw [BitVec.getLsbD_extractLsb', getLsbD_infoTwoWord, BitVec.getLsbD_ofNat]
  simp [show (3 * i.val + j) / 3 = i.val by omega, show (3 * i.val + j) % 3 = j by omega]

theorem infoTwoWord_reserved (cfg : Config) : (infoTwoWord cfg).extractLsb' 24 8 = 0#8 := by
  apply BitVec.eq_of_getLsbD_eq
  intro j hj
  rw [BitVec.getLsbD_extractLsb', getLsbD_infoTwoWord]
  simp [show ¬(24 + j) / 3 < 8 by omega]

/-- Settles O21: each parameter is a number that fits its field. -/
theorem identificationRegistersShowTheParameters : Obligations.IdentificationRegistersShowTheParameters := by
  intro cfg
  obtain ⟨hgf, hrounds, himpl, hgctr, hnibbles, hreserved, hversion⟩ := infoWord_fields cfg
  obtain ⟨hpresent, hmini, hsalt, hreservedOne, hpipe⟩ := infoOneWord_fields cfg
  refine ⟨hgf, hrounds, ?_, ?_, ?_, hreserved, hversion, hpresent, hmini, ?_, hreservedOne, ?_, fun i => ?_,
    infoTwoWord_reserved cfg⟩
  · rw [himpl, toNat_ofNat_of_lt (implNumber_lt _)]
  · rw [getLsbD_eq_true_iff_extractLsb', hgctr]
    cases cfg.gctrLoop <;> decide
  · rw [getLsbD_eq_true_iff_extractLsb', hnibbles]
    cases cfg.ksNibbles <;> decide
  · rw [hsalt, toNat_ofNat_of_lt cfg.saltShift.isLt]
  · rw [hpipe, toNat_ofNat_of_lt (pipeField_lt cfg), pipeField]
    cases cfg.multImpl <;> rfl
  · rw [infoTwoWord_entry, toNat_ofNat_of_lt (cfg.miniPBox i).isLt]

end Sys2Proof.StateProofs
end

section
/-! SUPPORT. BUSY, OVR and the operand registers under one step (10_state.md R34, R36, R40 to R43). -/

namespace Sys2Proof.StateProofs

open Sys2Proof Sys2Proof.Machine Sys2Proof.Laws

/-! ### A pending step, and a full-word write of a register -/

/-- Out of reset the oldest pending step runs, taken from the list (70_reset_and_hazards.md R340). -/
theorem step_eq_stepRunning {s : State} {e : EnvStep} {rest : List EnvStep} (hr : s.rst = false) (henv : s.env = e :: rest) :
    step s = stepRunning e { s with env := rest } := by
  simp [step, nextStep, henv, envStep, hr]

/-- Asserting reset writes the reset values, whether or not it was asserted before (70_reset_and_hazards.md R320). -/
theorem step_resetAssert {s : State} {rest : List EnvStep} (henv : s.env = .resetAssert :: rest) :
    step s = .next (resetValues true { s with env := rest }) := by
  cases hr : s.rst <;> simp [step, nextStep, henv, envStep, hr, stepInReset, stepRunning]

/-- A register is alone at its offset (20_memory.md R82). -/
theorem eq_regOffset_of_regAt {off : Offset} {r : Reg} (h : regAt off = some r) : off = regOffset r := by
  have hmap : ∀ e ∈ windowMap, e.1 = regOffset e.2 := by decide
  obtain ⟨e, hfind, rfl⟩ := Option.map_eq_some_iff.mp h
  have hoff : e.1 = off := by simpa using List.find?_some hfind
  exact hoff ▸ hmap e (List.mem_of_find?_eq_some hfind)

theorem windowWrite_regOffset (r : Reg) (v : Word) (s : State) : windowWrite (regOffset r) v s = writeReg r v s := by
  simp [windowWrite, regAt_regOffset]

/-- Every register's offset is aligned, so a write with all four strobes is supported (20_memory.md R82, R84). -/
theorem writeSupported_regOffset (r : Reg) : writeSupported (regOffset r) 0xF#4 = true := by
  cases r <;> decide

/-- A supported write has all four strobes active (20_memory.md R84). -/
theorem strobes_of_writeSupported {off : Offset} {strobes : Strobes} (h : writeSupported off strobes = true) : strobes = 0xF#4 := by
  simp only [writeSupported, Bool.and_eq_true, beq_iff_eq] at h
  exact h.2

/-- A full-word write at a register's offset writes the register and is answered OKAY (20_memory.md R82, R84). -/
theorem step_writeReg (r : Reg) {s : State} {v : Word} {rest : List EnvStep} (hr : s.rst = false)
    (henv : s.env = .write (regOffset r) 0xF#4 v :: rest) :
    step s = .next (respond (.write .okay) (writeReg r v { s with env := rest })) := by
  rw [step_eq_stepRunning hr henv]
  simp [stepRunning, hostWrite, writeSupported_regOffset, windowWrite_regOffset]

/-- Settles O17: each operand register is written as every register is, and its write stores the word. -/
theorem operandWritesStoreTheWord : Obligations.OperandWritesStoreTheWord := by
  intro s v rest hr
  exact ⟨step_writeReg .key0 hr, step_writeReg .key1 hr, step_writeReg .key2 hr, step_writeReg .key3 hr,
    step_writeReg .din0 hr, step_writeReg .din1 hr, step_writeReg .gfA hr, step_writeReg .gfB hr⟩

/-! ### What a completion leaves -/

theorem untouchedByCommands_refl (s : State) : UntouchedByCommands s s := by simp [UntouchedByCommands]

theorem env_eq_of_untouched {s t : State} (h : UntouchedByCommands s t) : t.env = s.env := by
  obtain ⟨-, -, -, -, -, -, -, -, -, -, -, -, -, henv, -, -⟩ := h
  exact henv

theorem ovr_eq_of_untouched {s t : State} (h : UntouchedByCommands s t) : t.ovr = s.ovr := by
  obtain ⟨-, -, -, -, -, -, -, -, -, hovr, -⟩ := h
  exact hovr

/-- A test between two meanings that answer a next state answers one. -/
theorem ite_answers {c : Prop} [Decidable c] {a b : Result} (ha : ∃ t, a = .next t) (hb : ∃ t, b = .next t) :
    ∃ t, (if c then a else b) = .next t := by
  split <;> assumption

/-- No command ends in a fault or a refusal: it completes or raises an error (60_exceptions.md R281, R286). -/
theorem exec_answers (i : Instr) (s : State) : ∃ t, exec i s = .next t := by
  cases i with
  | nop => exact ⟨_, rfl⟩
  | gfConfigure m => exact ite_answers ⟨_, rfl⟩ ⟨_, rfl⟩
  | gfMul => exact ite_answers ⟨_, rfl⟩ ⟨_, rfl⟩
  | keyLoadPresent klen rounds => exact ite_answers ⟨_, rfl⟩ (ite_answers ⟨_, rfl⟩ ⟨_, rfl⟩)
  | keyLoadMini rounds => exact ite_answers ⟨_, rfl⟩ ⟨_, rfl⟩
  | encrypt => exact ite_answers ⟨_, rfl⟩ ⟨_, rfl⟩
  | decrypt => exact ite_answers ⟨_, rfl⟩ ⟨_, rfl⟩
  | macInit => exact ⟨_, rfl⟩
  | macStart => exact ite_answers ⟨_, rfl⟩ ⟨_, rfl⟩
  | macChunk => exact ite_answers ⟨_, rfl⟩ (ite_answers ⟨_, rfl⟩ ⟨_, rfl⟩)
  | ivCond => exact ⟨_, rfl⟩

/-- A command leaves SEQ idle and the state that no command writes as it was (30_encoding.md R113). -/
theorem exec_finishes {i : Instr} {s t : State} (h : exec i s = .next t) : t.seq = .idle ∧ UntouchedByCommands s t := by
  have hs := untouchedByCommands_refl s
  cases i with
  | nop => rw [execNop_cases h]; exact ⟨rfl, hs⟩
  | gfConfigure m => obtain ⟨-, rfl⟩ | ⟨-, rfl⟩ := execGfConfigure_cases h <;> exact ⟨rfl, hs⟩
  | gfMul => obtain ⟨-, rfl⟩ | ⟨-, rfl⟩ := execGfMul_cases h <;> exact ⟨rfl, hs⟩
  | keyLoadPresent klen rounds =>
    obtain ⟨-, rfl⟩ | ⟨-, -, rfl⟩ | ⟨-, -, rfl⟩ := execKeyLoadPresent_cases h <;> exact ⟨rfl, hs⟩
  | keyLoadMini rounds => obtain ⟨-, rfl⟩ | ⟨-, rfl⟩ := execKeyLoadMini_cases h <;> exact ⟨rfl, hs⟩
  | encrypt => obtain ⟨-, rfl⟩ | ⟨-, rfl⟩ := execEncrypt_cases h <;> exact ⟨rfl, hs⟩
  | decrypt => obtain ⟨-, rfl⟩ | ⟨-, rfl⟩ := execDecrypt_cases h <;> exact ⟨rfl, hs⟩
  | macInit => rw [execMacInit_cases h]; exact ⟨rfl, hs⟩
  | macStart => obtain ⟨-, rfl⟩ | ⟨-, rfl⟩ := execMacStart_cases h <;> exact ⟨rfl, hs⟩
  | macChunk => obtain ⟨-, rfl⟩ | ⟨-, -, rfl⟩ | ⟨-, -, rfl⟩ := execMacChunk_cases h <;> exact ⟨rfl, hs⟩
  | ivCond => rw [execIvCond_cases h]; exact ⟨rfl, hs⟩

theorem completeAccepted_finishes {s t : State} (h : completeAccepted s = .next t) : t.seq = .idle ∧ UntouchedByCommands s t := by
  obtain ⟨i, -, hexec⟩ | ⟨-, rfl⟩ := completeAccepted_cases h
  · exact exec_finishes hexec
  · exact ⟨rfl, untouchedByCommands_refl s⟩

theorem completeAccepted_answers (s : State) : ∃ t, completeAccepted s = .next t := by
  unfold completeAccepted
  split
  · exact exec_answers _ s
  · exact ⟨_, rfl⟩

/-! ### BUSY -/

/-- While a command is in flight a host write leaves it in flight (20_memory.md R91, R92). -/
theorem hostWrite_busy (off : Offset) (strobes : Strobes) (v : Word) {s : State} (hb : s.seq = .busy) :
    (hostWrite off strobes v s).env = s.env ∧ (hostWrite off strobes v s).cur = s.cur ∧
      (hostWrite off strobes v s).seq = .busy := by
  unfold hostWrite
  split
  · obtain ⟨hcur, hseq, -⟩ := windowWrite_busy off v s hb
    exact ⟨windowWrite_env off v s, hcur, hseq⟩
  · exact ⟨rfl, rfl, hb⟩

/-- Out of reset only a completion and a reset end a command in flight (10_state.md R34). -/
theorem stepRunning_busy {s : State} {e : EnvStep} (hb : s.seq = .busy) (hc : e ≠ .complete) (ha : e ≠ .resetAssert) :
    ∃ t, stepRunning e s = .next t ∧ t.env = s.env ∧ t.cur = s.cur ∧ t.seq = .busy := by
  cases e with
  | read off size => exact ⟨_, rfl, rfl, rfl, hb⟩
  | write off strobes v => exact ⟨_, rfl, hostWrite_busy off strobes v hb⟩
  | complete => exact absurd rfl hc
  | clock =>
    obtain ⟨work, hclock⟩ := clockCycle_eq Config.machine s
    exact ⟨{ s with work := work }, congrArg Host.Outcome.next hclock, rfl, rfl, hb⟩
  | resetAssert => exact absurd rfl ha
  | resetRelease => exact ⟨_, rfl, rfl, rfl, hb⟩

/-- Settles O11: STATUS bit 0 shows SEQ, which an accept sets, a completion clears and no other step out of reset changes. -/
theorem busyFromAcceptToCompletion : Obligations.BusyFromAcceptToCompletion := by
  refine ⟨fun s w rest hr hidle henv => ?accept, fun s e rest hr hb henv hc ha => ?between,
    fun s rest hr hb henv => ?completion, fun s rest hr henv => ?clock⟩
  case accept =>
    refine ⟨_, step_writeReg .cmd hr henv, ?_⟩
    rw [status_bit_zero]
    simp [writeReg, writeCmd, hidle]
  case between =>
    obtain ⟨t, hstep, hrest, hcur, hbusy⟩ := stepRunning_busy (s := { s with env := rest }) hb hc ha
    exact ⟨t, (step_eq_stepRunning hr henv).trans hstep, hrest, hcur, by rw [status_bit_zero, hbusy]; rfl⟩
  case completion =>
    obtain ⟨t, hdone⟩ := completeAccepted_answers { s with env := rest }
    obtain ⟨hidle, huntouched⟩ := completeAccepted_finishes hdone
    refine ⟨t, ?_, env_eq_of_untouched huntouched, by rw [status_bit_zero, hidle]; rfl⟩
    rw [step_eq_stepRunning hr henv, ← hdone]
    simp [stepRunning, completionStep, hb]
  case clock =>
    obtain ⟨work, hclock⟩ := clockCycle_eq Config.machine { s with env := rest }
    exact ⟨work, (step_eq_stepRunning hr henv).trans (congrArg _ hclock)⟩

/-! ### OVR -/

/-- What a write of the window does to OVR: a CMD write in flight sets it, a STATUS write with bit 2 = 1 clears it (10_state.md R36). -/
theorem windowWrite_ovr_cases (off : Offset) (v : Word) (s : State) :
    (windowWrite off v s).ovr = s.ovr ∨
      (off = 0x00#8 ∧ s.seq = .busy ∧ (windowWrite off v s).ovr = true) ∨
      (off = 0x04#8 ∧ v.getLsbD 2 = true ∧ (windowWrite off v s).ovr = false) := by
  unfold windowWrite
  split
  · next r hreg =>
    have hoff := eq_regOffset_of_regAt hreg
    cases r with
    | cmd =>
      cases hseq : s.seq with
      | idle => exact .inl (by simp [writeReg, writeCmd, hseq])
      | busy => exact .inr (.inl ⟨hoff, rfl, by simp [writeReg, writeCmd, hseq]⟩)
    | status =>
      cases hbit : v.getLsbD 2 with
      | false => exact .inl (by simp only [writeReg, writeStatus, hbit, Bool.false_eq_true, if_false])
      | true => exact .inr (.inr ⟨hoff, rfl, by simp [writeReg, writeStatus, hbit]⟩)
    | _ => exact .inl rfl
  · exact .inl rfl

/-- A host write does to OVR what it does to the window, and only with all four strobes (20_memory.md R84). -/
theorem hostWrite_ovr_cases (off : Offset) (strobes : Strobes) (v : Word) (s : State) :
    (hostWrite off strobes v s).ovr = s.ovr ∨
      (strobes = 0xF#4 ∧ off = 0x00#8 ∧ s.seq = .busy ∧ (hostWrite off strobes v s).ovr = true) ∨
      (strobes = 0xF#4 ∧ off = 0x04#8 ∧ v.getLsbD 2 = true ∧ (hostWrite off strobes v s).ovr = false) := by
  cases hsup : writeSupported off strobes with
  | false => exact .inl (by simp [hostWrite, hsup])
  | true =>
    have hovr : (hostWrite off strobes v s).ovr = (windowWrite off v s).ovr := by simp [hostWrite, hsup]
    have hstrobes := strobes_of_writeSupported hsup
    rw [hovr]
    exact (windowWrite_ovr_cases off v s).imp_right (.imp (.intro hstrobes) (.intro hstrobes))

/-- A step while reset is asserted keeps OVR or is a reset. -/
theorem stepInReset_ovr_cases (e : EnvStep) (s : State) :
    (stepInReset e s).ovr = s.ovr ∨ ((e = .resetAssert ∨ e = .resetRelease) ∧ (stepInReset e s).ovr = false) := by
  cases e with
  | resetAssert => exact .inr ⟨.inl rfl, rfl⟩
  | resetRelease => exact .inr ⟨.inr rfl, rfl⟩
  | _ => exact .inl rfl

theorem completeAccepted_ovr {s t : State} (h : completeAccepted s = .next t) : t.ovr = s.ovr :=
  ovr_eq_of_untouched (completeAccepted_finishes h).2

/-- A step is an overrun: a full-word CMD write while a command is in flight (10_state.md R36). -/
def IsOverrun (s : State) : Prop := s.seq = .busy ∧ ∃ w rest, s.env = .write 0x00#8 0xF#4 w :: rest

/-- A step clears OVR: a STATUS write with bit 2 = 1, or a reset (10_state.md R36). -/
def ClearsOverrun (s : State) : Prop :=
  ∃ rest, (∃ v : Word, v.getLsbD 2 = true ∧ s.env = .write 0x04#8 0xF#4 v :: rest) ∨ s.env = .resetAssert :: rest ∨
    (s.env = .resetRelease :: rest ∧ s.rst = true)

/-- Everything a step can do to OVR. -/
theorem step_ovr_cases {s t : State} (h : step s = .next t) :
    t.ovr = s.ovr ∨ (IsOverrun s ∧ t.ovr = true) ∨ (ClearsOverrun s ∧ t.ovr = false) := by
  cases step_case h with
  | hold _ _ ht => exact .inl (congrArg State.ovr ht)
  | quietCompletion _ _ _ ht => exact .inl (completeAccepted_ovr ht)
  | inReset e rest henv hr ht =>
    subst ht
    obtain hkeep | ⟨rfl | rfl, hclear⟩ := stepInReset_ovr_cases e { s with env := rest }
    · exact .inl hkeep
    · exact .inr (.inr ⟨⟨rest, .inr (.inl henv)⟩, hclear⟩)
    · exact .inr (.inr ⟨⟨rest, .inr (.inr ⟨henv, hr⟩)⟩, hclear⟩)
  | read off size rest _ _ ht => subst ht; exact .inl rfl
  | write off strobes v rest henv _ ht =>
    subst ht
    obtain hkeep | ⟨rfl, rfl, hb, hset⟩ | ⟨rfl, rfl, hbit, hclear⟩ := hostWrite_ovr_cases off strobes v { s with env := rest }
    · exact .inl hkeep
    · exact .inr (.inl ⟨⟨hb, v, rest, henv⟩, hset⟩)
    · exact .inr (.inr ⟨⟨rest, .inl ⟨v, hbit, henv⟩⟩, hclear⟩)
  | completionIdle rest _ _ _ ht => subst ht; exact .inl rfl
  | completion rest _ _ _ ht =>
    have hkeep := completeAccepted_ovr ht
    exact .inl hkeep
  | clock rest _ _ ht =>
    obtain ⟨work, hclock⟩ := clockCycle_eq Config.machine { s with env := rest }
    rw [ht, hclock]
    exact .inl rfl
  | resetAssert rest henv _ ht => exact .inr (.inr ⟨⟨rest, .inr (.inl henv)⟩, congrArg State.ovr ht⟩)
  | releaseIgnored rest _ _ ht => subst ht; exact .inl rfl

/-- Settles O19: the three ways to set, clear or keep OVR, and from `step_ovr_cases` that there is no other. -/
theorem overrunFlagIsSticky : Obligations.OverrunFlagIsSticky := by
  refine ⟨fun s w rest hr hb henv => ?set, fun s v rest hr henv => ?status,
    fun s rest henv => ⟨_, step_resetAssert henv, rfl⟩, fun s t h h0 h1 => ?setOnly, fun s t h h1 h0 => ?clearOnly⟩
  case set =>
    refine ⟨_, step_writeReg .cmd hr henv, ?_⟩
    simp [writeReg, writeCmd, hb]
  case status =>
    refine ⟨_, step_writeReg .status hr henv, ?_⟩
    simp only [writeReg, writeStatus, respond_ovr]
    split <;> rfl
  case setOnly =>
    obtain hkeep | ⟨hover, -⟩ | ⟨-, hclear⟩ := step_ovr_cases h
    · simp [hkeep, h0] at h1
    · exact hover
    · simp [hclear] at h1
  case clearOnly =>
    obtain hkeep | ⟨-, hset⟩ | ⟨hclears, -⟩ := step_ovr_cases h
    · simp [hkeep, h1] at h0
    · simp [hset] at h0
    · exact hclears

end Sys2Proof.StateProofs
end

section
/-! SUPPORT. The accesses of the register window, and the completion of an accepted command (20_memory.md R82 to R93). -/

namespace Sys2Proof.MemoryProofs

open Sys2Proof Sys2Proof.Machine Sys2Proof.Laws Sys2Proof.StateProofs

/-! ### Progress of a command in flight -/

/-- The next step ends a command in flight: a completion, the quiet one among them, or a reset (20_memory.md R93). -/
def EndsCommand (s : State) : Prop :=
  s.env = [] ∨ ∃ rest, s.env = .complete :: rest ∨ s.env = .resetAssert :: rest

/-- A step with nothing pending completes the command in flight (log 5). -/
theorem step_eq_completeAccepted_of_quiet {s : State} (hr : s.rst = false) (hb : s.seq = .busy) (henv : s.env = []) :
    step s = completeAccepted s := by
  simp [step, nextStep, henv, quietStep, hr, completionStep, hb]

theorem step_eq_completeAccepted_of_pending {s : State} {rest : List EnvStep} (hr : s.rst = false) (hb : s.seq = .busy)
    (henv : s.env = .complete :: rest) : step s = completeAccepted { s with env := rest } := by
  rw [step_eq_stepRunning hr henv]
  simp [stepRunning, completionStep, hb]

theorem completeAccepted_idle (s : State) : ∃ u, completeAccepted s = .next u ∧ u.seq = .idle := by
  obtain ⟨u, hdone⟩ := completeAccepted_answers s
  exact ⟨u, hdone, (completeAccepted_finishes hdone).1⟩

theorem step_idle_of_endsCommand {s : State} (hr : s.rst = false) (hb : s.seq = .busy) (hend : EndsCommand s) :
    ∃ u, step s = .next u ∧ u.seq = .idle := by
  obtain henv | ⟨rest, henv | henv⟩ := hend
  · exact step_eq_completeAccepted_of_quiet hr hb henv ▸ completeAccepted_idle s
  · exact step_eq_completeAccepted_of_pending hr hb henv ▸ completeAccepted_idle { s with env := rest }
  · exact ⟨_, step_resetAssert henv, rfl⟩

theorem hostWrite_rst (off : Offset) (strobes : Strobes) (v : Word) (s : State) :
    (hostWrite off strobes v s).rst = s.rst := by
  unfold hostWrite
  split <;> simp

/-- Out of reset a step that neither completes a command nor asserts reset keeps the level of the reset input. -/
theorem stepRunning_rst {s t : State} {e : EnvStep} (hc : e ≠ .complete) (ha : e ≠ .resetAssert) (h : stepRunning e s = .next t) :
    t.rst = s.rst := by
  cases e with
  | read off size => cases h; rfl
  | write off strobes v => cases h; exact hostWrite_rst off strobes v s
  | complete => exact absurd rfl hc
  | clock =>
    obtain ⟨work, hclock⟩ := clockCycle_eq Config.machine s
    cases h
    rw [hclock]
  | resetAssert => exact absurd rfl ha
  | resetRelease => cases h; rfl

/-- A step that does not end the command in flight uses up one pending step of the environment and keeps the command. -/
theorem step_waits {s : State} {e : EnvStep} {rest : List EnvStep} (hr : s.rst = false) (hb : s.seq = .busy)
    (henv : s.env = e :: rest) (hend : ¬ EndsCommand s) :
    ∃ t, step s = .next t ∧ t.env = rest ∧ t.cur = s.cur ∧ t.seq = .busy ∧ t.rst = false := by
  have hc : e ≠ .complete := by rintro rfl; exact hend (.inr ⟨rest, .inl henv⟩)
  have ha : e ≠ .resetAssert := by rintro rfl; exact hend (.inr ⟨rest, .inr henv⟩)
  obtain ⟨t, hrun, hrest, hcur, hbusy⟩ := stepRunning_busy (s := { s with env := rest }) hb hc ha
  exact ⟨t, (step_eq_stepRunning hr henv).trans hrun, hrest, hcur, hbusy, (stepRunning_rst hc ha hrun).trans hr⟩

theorem runSteps_succ_of_step {s t : State} (n : Nat) (h : step s = .next t) : runSteps (n + 1) s = runSteps n t := by
  simp [runSteps, h]

/-- A command in flight is kept, with its snapshot, until the next step is one that ends it; at most the pending steps come before. -/
theorem reaches_endsCommand {s : State} (hb : s.seq = .busy) (hr : s.rst = false) :
    ∃ n t, n ≤ s.env.length ∧ runSteps n s = .next t ∧ t.seq = .busy ∧ t.cur = s.cur ∧ t.rst = false ∧ EndsCommand t := by
  induction henv : s.env generalizing s with
  | nil => exact ⟨0, s, le_rfl, rfl, hb, rfl, hr, .inl henv⟩
  | cons e rest ih =>
    by_cases hend : EndsCommand s
    · exact ⟨0, s, Nat.zero_le _, rfl, hb, rfl, hr, hend⟩
    · obtain ⟨s', hstep, hrest, hcur', hb', hr'⟩ := step_waits hr hb henv hend
      obtain ⟨n, t, hn, hrun, hbt, hcur, hrt, hendt⟩ := ih hb' hr' hrest
      exact ⟨n + 1, t, Nat.succ_le_succ hn, (runSteps_succ_of_step n hstep).trans hrun, hbt, hcur.trans hcur', hrt, hendt⟩

/-- Settles O10: the pending steps are used up one by one until one ends the command, and none left completes it. -/
theorem acceptedCommandCompletes : Obligations.AcceptedCommandCompletes := by
  intro s hb hr
  obtain ⟨n, t, hn, hrun, hbt, hcur, hrt, hend⟩ := reaches_endsCommand hb hr
  obtain ⟨u, hstep, hidle⟩ := step_idle_of_endsCommand hrt hbt hend
  exact ⟨n, t, u, hn, hrun, hbt, hcur, hstep, hidle, hend⟩

/-! ### CMD writes -/

/-- Settles O18: a CMD write is accepted or sets OVR by the register's own rule, and no write touches a command in flight. -/
theorem cmdWriteAcceptsOrOverruns : Obligations.CmdWriteAcceptsOrOverruns := by
  refine ⟨fun s w rest hr hidle henv => ?accept, fun s w rest hr hb henv => ?overrun,
    fun s t off strobes v rest hr hb henv h => ?inFlight⟩
  case accept =>
    refine ⟨startUnits s.work, ?_⟩
    rw [step_writeReg .cmd hr henv]
    simp only [writeReg, writeCmd, hidle]
    rfl
  case overrun =>
    rw [step_writeReg .cmd hr henv]
    simp only [writeReg, writeCmd, hb]
    rfl
  case inFlight =>
    rw [step_eq_stepRunning hr henv] at h
    obtain ⟨-, hcur, hseq⟩ := hostWrite_busy off strobes v (s := { s with env := rest }) hb
    cases h
    exact ⟨hcur, hseq⟩

/-! ### The register map -/

/-- Settles O12: the map gives a register at its own offset, and gives it at no other. -/
theorem registerMapIsTheTable : Obligations.RegisterMapIsTheTable := fun _ r =>
  ⟨eq_regOffset_of_regAt, fun hoff => hoff ▸ regAt_regOffset r⟩

theorem regOffset_lt (r : Reg) : (regOffset r).toNat < 0x5C := by cases r <;> decide

/-- From 0x5C on there is no register (20_memory.md R83). -/
theorem regAt_reserved {off : Offset} (hoff : 0x5C ≤ off.toNat) : regAt off = none := by
  rw [Option.eq_none_iff_forall_ne_some]
  intro r hreg
  have hlt := regOffset_lt r
  rw [← eq_regOffset_of_regAt hreg] at hlt
  omega

theorem windowWord_reserved (cfg : Config) (s : State) {off : Offset} (hoff : 0x5C ≤ off.toNat) : windowWord cfg s off = 0#32 := by
  simp [windowWord, regAt_reserved hoff]

theorem windowWrite_reserved (v : Word) (s : State) {off : Offset} (hoff : 0x5C ≤ off.toNat) : windowWrite off v s = s := by
  simp [windowWrite, regAt_reserved hoff]

theorem windowWord_regOffset (cfg : Config) (s : State) (r : Reg) : windowWord cfg s (regOffset r) = readReg cfg s r := by
  simp [windowWord, regAt_regOffset]

/-! ### Supported and refused accesses -/

/-- An offset is aligned when it is a multiple of four (20_memory.md R84). -/
theorem aligned_iff (off : Offset) : aligned off = true ↔ off.toNat % 4 = 0 := by
  have hlow : (off &&& 0x03#8).toNat = off.toNat % 4 := Nat.and_two_pow_sub_one_eq_mod off.toNat 2
  simp [aligned, ← BitVec.toNat_inj, hlow]

theorem readSupported_iff (off : Offset) (size : AccessSize) :
    readSupported off size = true ↔ off.toNat % 4 = 0 ∧ size = .word := by
  simp [readSupported, aligned_iff]

theorem writeSupported_iff (off : Offset) (strobes : Strobes) :
    writeSupported off strobes = true ↔ off.toNat % 4 = 0 ∧ strobes = 0xF#4 := by
  simp [writeSupported, aligned_iff]

theorem regOffset_aligned (r : Reg) : (regOffset r).toNat % 4 = 0 :=
  ((writeSupported_iff _ _).mp (writeSupported_regOffset r)).1

theorem step_read {s : State} {off : Offset} {size : AccessSize} {rest : List EnvStep} (hr : s.rst = false)
    (henv : s.env = .read off size :: rest) :
    step s = .next (respond (readResponse Config.machine off size s) { s with env := rest }) := by
  rw [step_eq_stepRunning hr henv]
  rfl

/-- A full-word read at an aligned offset is answered OKAY with the window's word (20_memory.md R84, R89). -/
theorem step_read_word {s : State} {off : Offset} {rest : List EnvStep} (hr : s.rst = false)
    (henv : s.env = .read off .word :: rest) (haligned : off.toNat % 4 = 0) :
    step s = .next (respond (.read .okay (windowWord Config.machine s off)) { s with env := rest }) := by
  rw [step_read hr henv, readResponse, if_pos ((readSupported_iff off .word).mpr ⟨haligned, rfl⟩)]

/-- A full-word write at an aligned offset writes the window and is answered OKAY (20_memory.md R84). -/
theorem step_write_word {s : State} {off : Offset} {v : Word} {rest : List EnvStep} (hr : s.rst = false)
    (henv : s.env = .write off 0xF#4 v :: rest) (haligned : off.toNat % 4 = 0) :
    step s = .next (respond (.write .okay) (windowWrite off v { s with env := rest })) := by
  rw [step_eq_stepRunning hr henv]
  simp [stepRunning, hostWrite, (writeSupported_iff off 0xF#4).mpr ⟨haligned, rfl⟩]

/-- Settles O13: no register stands at a reserved offset, so the window reads 0 there and a write of it is ignored. -/
theorem reservedOffsetsAreRazWi : Obligations.ReservedOffsetsAreRazWi := by
  intro s off v rest hr hoff haligned
  constructor
  · intro henv
    rw [step_read_word hr henv haligned, windowWord_reserved _ _ hoff]
    rfl
  · intro henv
    rw [step_write_word hr henv haligned, windowWrite_reserved _ _ hoff]
    rfl

/-- Settles O14: an access that is not supported is answered ERROR before the window is looked at. -/
theorem refusedAccessChangesNothing : Obligations.RefusedAccessChangesNothing := by
  refine ⟨fun s off size rest hr henv hbad => ?read, fun s off strobes v rest hr henv hbad => ?write⟩
  case read =>
    have hunsupported : ¬ readSupported off size = true := by rw [readSupported_iff]; tauto
    rw [step_read hr henv, readResponse, if_neg hunsupported]
    rfl
  case write =>
    have hunsupported : ¬ writeSupported off strobes = true := by rw [writeSupported_iff]; tauto
    rw [step_eq_stepRunning hr henv, stepRunning, hostWrite, if_neg hunsupported]
    rfl

/-- Settles O15: a full-word read at a register's offset answers the register's value and leaves the state. -/
theorem readsHaveNoSideEffects : Obligations.ReadsHaveNoSideEffects := by
  intro s r rest hr henv
  rw [step_read_word hr henv (regOffset_aligned r), windowWord_regOffset]
  rfl

/-! ### Read-only registers and short registers -/

/-- The registers that ignore every write (20_memory.md R90). -/
def readOnlyRegs : List Reg := [.dout0, .dout1, .gfR, .fieldDeg, .fieldPoly, .macTag, .macHash, .ksRounds, .info, .info1, .info2]

theorem writeReg_readOnly {r : Reg} (v : Word) (s : State) (hro : r ∈ readOnlyRegs) : writeReg r v s = s := by
  cases r with
  | dout0 | dout1 | gfR | fieldDeg | fieldPoly | macTag | macHash | ksRounds | info | info1 | info2 => rfl
  | _ => exact absurd hro (by decide)

/-- A STATUS write clears OVR exactly where bit 2 is 1 (10_state.md R36). -/
theorem writeStatus_eq (v : Word) (s : State) : writeStatus v s = { s with ovr := s.ovr && !v.getLsbD 2 } := by
  unfold writeStatus
  split
  · next hbit => simp only [hbit, Bool.not_true, Bool.and_false]
  · next hbit => simp only [Bool.eq_false_of_not_eq_true hbit, Bool.not_false, Bool.and_true]

/-- Settles O16: each write is the register's own; STATUS keeps all but OVR, and the 16-bit registers take the low half. -/
theorem readOnlyWritesAreIgnored : Obligations.ReadOnlyWritesAreIgnored := by
  refine ⟨fun s r v rest hr hro henv => ?readOnly, fun s v rest hr henv => ?status, fun s v rest hr henv => ?macIv,
    fun s v rest hr henv => ?macDin⟩
  case readOnly =>
    rw [step_writeReg r hr henv, writeReg_readOnly v _ hro]
    rfl
  case status =>
    rw [step_writeReg .status hr henv, writeReg, writeStatus_eq]
    rfl
  case macIv =>
    rw [step_writeReg .macIv hr henv, ← BitVec.setWidth_eq_extractLsb' (by decide)]
    rfl
  case macDin =>
    rw [step_writeReg .macDin hr henv, ← BitVec.setWidth_eq_extractLsb' (by decide)]
    rfl

end Sys2Proof.MemoryProofs
end

section
/-! SUPPORT. The encoding of the commands: encode and decode agree, and an illegal word ends in IllegalCommand (30_encoding.md R110 to R119). -/

namespace Sys2Proof.EncodingProofs

open Sys2Proof Sys2Proof.Machine Sys2Proof.Laws Sys2Proof.StateProofs Sys2Proof.MemoryProofs

/-! ### The fields of a word -/

theorem cmdOp_eq (w : Word) : cmdOp w = w.toNat % 256 := by simp [cmdOp, BitVec.extractLsb'_toNat]

theorem cmdArg_eq (w : Word) : cmdArg w = w.toNat / 256 % 256 := by
  simp [cmdArg, BitVec.extractLsb'_toNat, Nat.shiftRight_eq_div_pow]

theorem cmdRnd_eq (w : Word) : cmdRnd w = w.toNat / 65536 % 256 := by
  simp [cmdRnd, BitVec.extractLsb'_toNat, Nat.shiftRight_eq_div_pow]

theorem cmdRsv_eq (w : Word) : cmdRsv w = w.toNat / 16777216 := by
  have hw : w.toNat / 16777216 < 256 := by omega
  simp [cmdRsv, BitVec.extractLsb'_toNat, Nat.shiftRight_eq_div_pow, Nat.mod_eq_of_lt hw]

/-- The three fields of CMD32 do not overlap, so OR is addition (R110). -/
theorem toNat_cmd32 {op arg rnd : Nat} (hop : op < 256) (harg : arg < 256) (hrnd : rnd < 256) :
    (cmd32 op arg rnd).toNat = op + 256 * arg + 65536 * rnd := by
  have hlow : op ||| arg <<< 8 = op + 256 * arg := by
    rw [Nat.or_comm, ← Nat.shiftLeft_add_eq_or_of_lt hop, Nat.shiftLeft_eq]; omega
  have hhigh : (op + 256 * arg) ||| rnd <<< 16 = op + 256 * arg + 65536 * rnd := by
    rw [Nat.or_comm, ← Nat.shiftLeft_add_eq_or_of_lt (by omega), Nat.shiftLeft_eq]; omega
  have hargWord : arg <<< 8 < 2 ^ 32 := by rw [Nat.shiftLeft_eq]; omega
  have hrndWord : rnd <<< 16 < 2 ^ 32 := by rw [Nat.shiftLeft_eq]; omega
  rw [cmd32, BitVec.toNat_or, BitVec.toNat_or, BitVec.toNat_shiftLeft, BitVec.toNat_shiftLeft,
    toNat_ofNat_of_lt (by omega), toNat_ofNat_of_lt (by omega), toNat_ofNat_of_lt (by omega),
    Nat.mod_eq_of_lt hargWord, Nat.mod_eq_of_lt hrndWord, hlow, hhigh]

/-- A word whose reserved bits are 0 is made of its three fields (R110). -/
theorem cmd32_of_fields {w : Word} (hrsv : cmdRsv w = 0) : cmd32 (cmdOp w) (cmdArg w) (cmdRnd w) = w := by
  rw [cmdRsv_eq] at hrsv
  apply BitVec.eq_of_toNat_eq
  rw [cmdOp_eq, cmdArg_eq, cmdRnd_eq, toNat_cmd32 (by omega) (by omega) (by omega)]
  omega

/-- The decoder reads back the fields a word was made of (R110, R115). -/
theorem decode_cmd32 {op arg rnd : Nat} (hop : op < 256) (harg : arg < 256) (hrnd : rnd < 256) :
    decode (cmd32 op arg rnd) = decodeFields op arg rnd := by
  have hword := toNat_cmd32 hop harg hrnd
  have hrsv : cmdRsv (cmd32 op arg rnd) = 0 := by rw [cmdRsv_eq]; omega
  have hopField : cmdOp (cmd32 op arg rnd) = op := by rw [cmdOp_eq]; omega
  have hargField : cmdArg (cmd32 op arg rnd) = arg := by rw [cmdArg_eq]; omega
  have hrndField : cmdRnd (cmd32 op arg rnd) = rnd := by rw [cmdRnd_eq]; omega
  simp [decode, hrsv, hopField, hargField, hrndField]

/-! ### The fields of a command -/

/-- OP of a command (R112). -/
def opField : Instr → Nat
  | .nop => 0x00
  | .gfConfigure _ => 0x01
  | .gfMul => 0x02
  | .keyLoadPresent _ _ => 0x10
  | .keyLoadMini _ => 0x11
  | .encrypt => 0x12
  | .decrypt => 0x13
  | .macInit => 0x20
  | .macStart => 0x21
  | .macChunk => 0x22
  | .ivCond => 0x23

/-- ARG of a command, 0 where it has no such immediate (R112). -/
def argField : Instr → Nat
  | .gfConfigure m => m
  | .keyLoadPresent klen _ => klen
  | _ => 0

/-- RND of a command, 0 where it has no such immediate (R112). -/
def rndField : Instr → Nat
  | .keyLoadPresent _ rounds => rounds
  | .keyLoadMini rounds => rounds
  | _ => 0

theorem encode_eq_cmd32 (i : Instr) : encode i = cmd32 (opField i) (argField i) (rndField i) := by
  cases i <;> rfl

theorem opField_lt (i : Instr) : opField i < 256 := by
  cases i <;> simp [opField]

theorem wellFormed_iff (i : Instr) : WellFormed i ↔ argField i < 256 ∧ rndField i < 256 := by
  cases i <;> simp [WellFormed, Instr.wellFormed, fitsField, argField, rndField]

/-- A row of R115 that answers a command has met the row's check. -/
theorem need_eq_some {c : Bool} {j i : Instr} : need c j = some i ↔ c = true ∧ j = i := by
  cases c <;> simp [need]

/-- A row of R115 whose check holds the fields to those of its command. -/
theorem fields_of_need {c : Bool} {i j : Instr} {op arg rnd : Nat} (hop : op = opField j) (h : need c j = some i)
    (hcheck : c = true → arg = argField j ∧ rnd = rndField j) : op = opField i ∧ arg = argField i ∧ rnd = rndField i := by
  obtain ⟨hc, rfl⟩ := need_eq_some.mp h
  exact ⟨hop, hcheck hc⟩

/-! ### The rows of the decoder -/

/-- The assigned opcodes (R112). -/
def assignedOps : List Nat := [0x00, 0x01, 0x02, 0x10, 0x11, 0x12, 0x13, 0x20, 0x21, 0x22, 0x23]

theorem decodeFields_unassigned {op : Nat} (arg rnd : Nat) (hop : op ∉ assignedOps) : decodeFields op arg rnd = none := by
  simp only [assignedOps, List.mem_cons, List.not_mem_nil, or_false, not_or] at hop
  simp [decodeFields, hop]

/-- The decoder answers a command exactly when the three fields are the command's own (R112, R115). -/
theorem decodeFields_eq_some_iff {op arg rnd : Nat} {i : Instr} :
    decodeFields op arg rnd = some i ↔ op = opField i ∧ arg = argField i ∧ rnd = rndField i := by
  constructor
  · intro h
    have hop : op ∈ assignedOps := by
      by_contra hop
      simp [decodeFields_unassigned arg rnd hop] at h
    simp only [assignedOps, List.mem_cons, List.not_mem_nil, or_false] at hop
    obtain rfl | rfl | rfl | rfl | rfl | rfl | rfl | rfl | rfl | rfl | rfl := hop
    -- KEY_LOAD_PRESENT's row alone has no check: both its fields are free.
    case inr.inr.inr.inl =>
      obtain rfl := Option.some.inj h
      exact ⟨rfl, rfl, rfl⟩
    all_goals exact fields_of_need rfl h (by simp [argField, rndField])
  · rintro ⟨rfl, rfl, rfl⟩
    cases i <;> rfl

/-- What the decoder refuses, in the fields of the word: R114 but for RSV. -/
theorem decodeFields_eq_none_iff {op arg rnd : Nat} :
    decodeFields op arg rnd = none ↔
      op ∉ assignedOps ∨ (arg ≠ 0 ∧ op ≠ 0x01 ∧ op ≠ 0x10) ∨ (rnd ≠ 0 ∧ op ≠ 0x10 ∧ op ≠ 0x11) := by
  by_cases hop : op ∈ assignedOps
  · simp only [hop, not_true, false_or]
    simp only [assignedOps, List.mem_cons, List.not_mem_nil, or_false] at hop
    obtain rfl | rfl | rfl | rfl | rfl | rfl | rfl | rfl | rfl | rfl | rfl := hop <;>
      simp [decodeFields, need, imp_iff_not_or]
  · simp [hop, decodeFields_unassigned arg rnd hop]

theorem decode_eq_some_iff {w : Word} {i : Instr} :
    decode w = some i ↔ cmdRsv w = 0 ∧ cmdOp w = opField i ∧ cmdArg w = argField i ∧ cmdRnd w = rndField i := by
  rw [← decodeFields_eq_some_iff]
  by_cases hrsv : cmdRsv w = 0 <;> simp [decode, hrsv]

theorem decode_eq_none_iff {w : Word} :
    decode w = none ↔ cmdRsv w ≠ 0 ∨ decodeFields (cmdOp w) (cmdArg w) (cmdRnd w) = none := by
  by_cases hrsv : cmdRsv w = 0 <;> simp [decode, hrsv]

/-! ### The statements -/

/-- Settles O1: the decoder reads back the three fields `encode` wrote, and they are the command's own. -/
theorem decodeOfEncodeIsTheCommand : Obligations.DecodeOfEncodeIsTheCommand := by
  intro i hwf
  obtain ⟨harg, hrnd⟩ := (wellFormed_iff i).mp hwf
  rw [encode_eq_cmd32, decode_cmd32 (opField_lt i) harg hrnd]
  exact decodeFields_eq_some_iff.mpr ⟨rfl, rfl, rfl⟩

/-- Settles O2: a word that decodes has RSV = 0 and the fields of its command, so it is the word made of them. -/
theorem encodeOfDecodeIsTheWord : Obligations.EncodeOfDecodeIsTheWord := by
  intro w i h
  obtain ⟨hrsv, hop, harg, hrnd⟩ := decode_eq_some_iff.mp h
  rw [wellFormed_iff, encode_eq_cmd32, ← hop, ← harg, ← hrnd]
  exact ⟨⟨BitVec.isLt _, BitVec.isLt _⟩, cmd32_of_fields hrsv⟩

/-- An illegal word completes with IllegalCommand (R114). -/
theorem completeAccepted_of_illegal {s : State} (hillegal : decode s.cur.word = none) :
    completeAccepted s = .next (failed .illegalCommand s) := by
  simp [completeAccepted, hillegal, raise]

/-- Settles O3: the decoder's refusals are R114's, and an illegal word is accepted as any word is, then completes with the error. -/
theorem illegalWordsRaiseIllegalCommand : Obligations.IllegalWordsRaiseIllegalCommand := by
  refine ⟨fun w => ?cases, fun w s rest hillegal hr hidle henv => ?accepted⟩
  case cases =>
    rw [decode_eq_none_iff, decodeFields_eq_none_iff, cmdOp_eq, cmdArg_eq, cmdRnd_eq, cmdRsv_eq]
    exact or_left_comm
  case accepted =>
    have haccept := step_writeReg .cmd hr henv
    simp only [writeReg, writeCmd, hidle] at haccept
    refine ⟨_, haccept, rfl, rfl, ?_⟩
    rw [step_eq_completeAccepted_of_pending (by simpa using hr) rfl rfl]
    exact completeAccepted_of_illegal hillegal

/-- Settles O4: the examples' words are `encode`'s, so they decode by O1; a key length of 8 fails the first check of R190. -/
theorem encodingExamplesDecode : Obligations.EncodingExamplesDecode := by
  refine ⟨fun e he => ?words, fun w hw => ?illegal, fun s => rfl⟩
  case words =>
    have hencode : WellFormed e.1 ∧ encode e.1 = e.2 := by revert e; decide
    exact ⟨hencode.2, hencode.2 ▸ decodeOfEncodeIsTheCommand e.1 hencode.1⟩
  case illegal =>
    simp only [List.mem_cons, List.not_mem_nil, or_false] at hw
    obtain rfl | rfl | rfl := hw <;> decide

end Sys2Proof.EncodingProofs
end

section
/-! SUPPORT. The frame of the commands: what each leaves unchanged (30_encoding.md R113). -/

namespace Sys2Proof.EncodingProofs

open Sys2Proof Sys2Proof.Machine Sys2Proof.Laws Sys2Proof.StateProofs

/-! ### The groups of state under the updates of the commands -/

theorem groupSame_refl (g : WriteGroup) (s : State) : groupSame g s s := by
  cases g <;> simp [groupSame]

/-- complete() writes no group of state. -/
theorem groupSame_completed {g : WriteGroup} {s u : State} (h : groupSame g s u) : groupSame g s (completed u) := by
  cases g <;> exact h

/-- An error writes no group of state (60_exceptions.md R281). -/
theorem groupSame_failed (g : WriteGroup) (e : ErrCode) (s : State) : groupSame g s (failed e s) := by
  have hs := groupSame_refl g s
  cases g <;> exact hs

theorem groupSame_setField {g : WriteGroup} (hg : g ∉ [.field]) (s : State) (m : Byte) (p : Word) :
    groupSame g s { s with fieldDeg := m, fieldPoly := p, fieldValid := true } := by
  have hs := groupSame_refl g s
  cases g with
  | field => exact absurd (by decide) hg
  | _ => exact hs

theorem groupSame_setProduct {g : WriteGroup} (hg : g ∉ [.product]) (s : State) (r : GfWord) :
    groupSame g s { s with gfR := r } := by
  have hs := groupSame_refl g s
  cases g with
  | product => exact absurd (by decide) hg
  | _ => exact hs

theorem groupSame_installSchedule {g : WriteGroup} (hg : g ∉ [.schedule]) (v : Variant) (ks : List Block) (s : State) :
    groupSame g s (installSchedule v ks s) := by
  have hs := groupSame_refl g s
  cases g with
  | schedule => exact absurd (by decide) hg
  | _ => exact hs

theorem groupSame_writeDout {g : WriteGroup} (hg : g ∉ [.block]) (v : Block) (s : State) : groupSame g s (writeDout v s) := by
  have hs := groupSame_refl g s
  cases g with
  | block => exact absurd (by decide) hg
  | _ => exact hs

theorem groupSame_macKey {g : WriteGroup} (hg : g ∉ [.macKey, .openFlag]) (s : State) (file : Vector Byte 4) (r h : Byte) :
    groupSame g s { s with ksMac := file, ksMacR := r, macH := h, macOpen := false } := by
  have hs := groupSame_refl g s
  cases g with
  | macKey | openFlag => exact absurd (by decide) hg
  | _ => exact hs

theorem groupSame_openMessage {g : WriteGroup} (hg : g ∉ [.keystream, .hash, .openFlag]) (s : State) (k : Half)
    (h tag : GfWord) : groupSame g s { s with macGctr := k, macHash := h, macTag := tag, macOpen := true } := by
  have hs := groupSame_refl g s
  cases g with
  | keystream | hash | openFlag => exact absurd (by decide) hg
  | _ => exact hs

theorem groupSame_setHash {g : WriteGroup} (hg : g ∉ [.hash]) (s : State) (h tag : GfWord) :
    groupSame g s { s with macHash := h, macTag := tag } := by
  have hs := groupSame_refl g s
  cases g with
  | hash => exact absurd (by decide) hg
  | _ => exact hs

theorem groupSame_setIv {g : WriteGroup} (hg : g ∉ [.iv]) (s : State) (x : Half) : groupSame g s { s with macIv := x } := by
  have hs := groupSame_refl g s
  cases g with
  | iv => exact absurd (by decide) hg
  | _ => exact hs

/-- A command writes no group of state that its row of R113 does not list. -/
theorem exec_groupSame {i : Instr} {s t : State} {g : WriteGroup} (h : exec i s = .next t) (hg : g ∉ writesOf i) :
    groupSame g s t := by
  cases i with
  | nop =>
    rw [execNop_cases h]
    exact groupSame_completed (groupSame_refl g s)
  | gfConfigure m =>
    obtain ⟨-, rfl⟩ | ⟨-, rfl⟩ := execGfConfigure_cases h
    · exact groupSame_completed (groupSame_setField hg s _ _)
    · exact groupSame_failed g _ s
  | gfMul =>
    obtain ⟨-, rfl⟩ | ⟨-, rfl⟩ := execGfMul_cases h
    · exact groupSame_failed g _ s
    · exact groupSame_completed (groupSame_setProduct hg s _)
  | keyLoadPresent klen rounds =>
    obtain ⟨-, rfl⟩ | ⟨-, -, rfl⟩ | ⟨-, -, rfl⟩ := execKeyLoadPresent_cases h
    · exact groupSame_failed g _ s
    · exact groupSame_failed g _ s
    · exact groupSame_completed (groupSame_installSchedule hg _ _ s)
  | keyLoadMini rounds =>
    obtain ⟨-, rfl⟩ | ⟨-, rfl⟩ := execKeyLoadMini_cases h
    · exact groupSame_failed g _ s
    · exact groupSame_completed (groupSame_installSchedule hg _ _ s)
  | encrypt =>
    obtain ⟨-, rfl⟩ | ⟨-, rfl⟩ := execEncrypt_cases h
    · exact groupSame_failed g _ s
    · exact groupSame_completed (groupSame_writeDout hg _ s)
  | decrypt =>
    obtain ⟨-, rfl⟩ | ⟨-, rfl⟩ := execDecrypt_cases h
    · exact groupSame_failed g _ s
    · exact groupSame_completed (groupSame_writeDout hg _ s)
  | macInit =>
    rw [execMacInit_cases h]
    exact groupSame_completed (groupSame_macKey hg s _ _ _)
  | macStart =>
    obtain ⟨-, rfl⟩ | ⟨-, rfl⟩ := execMacStart_cases h
    · exact groupSame_failed g _ s
    · exact groupSame_completed (groupSame_openMessage hg s _ _ _)
  | macChunk =>
    obtain ⟨-, rfl⟩ | ⟨-, -, rfl⟩ | ⟨-, -, rfl⟩ := execMacChunk_cases h
    · exact groupSame_failed g _ s
    · exact groupSame_failed g _ s
    · exact groupSame_completed (groupSame_setHash hg s _ _)
  | ivCond =>
    rw [execIvCond_cases h]
    exact groupSame_completed (groupSame_setIv hg s _)

/-! ### The window -/

/-- A register other than STATUS shows operand registers and the groups that list it, and nothing else (10_state.md R31 to R54). -/
theorem readReg_eq_of_groupSame (cfg : Config) {s t : State} {r : Reg} (huntouched : UntouchedByCommands s t) (hr : r ≠ .status)
    (hgroups : ∀ g : WriteGroup, r ∈ groupRegs g → groupSame g s t) : readReg cfg t r = readReg cfg s r := by
  obtain ⟨hkey0, hkey1, hkey2, hkey3, hdin0, hdin1, hgfA, hgfB, hmacDin, -⟩ := huntouched
  cases r with
  | status => exact absurd rfl hr
  | cmd | info | info1 | info2 => rfl
  | key0 => exact hkey0
  | key1 => exact hkey1
  | key2 => exact hkey2
  | key3 => exact hkey3
  | din0 => exact hdin0
  | din1 => exact hdin1
  | gfA => exact hgfA
  | gfB => exact hgfB
  | macDin => exact congrArg (BitVec.setWidth 32) hmacDin
  | dout0 => exact (hgroups .block (by decide)).1
  | dout1 => exact (hgroups .block (by decide)).2
  | gfR => exact congrArg (BitVec.setWidth 32) (hgroups .product (by decide))
  | fieldDeg => exact congrArg (fun c => c.2.1.setWidth 32) (hgroups .field (by decide))
  | fieldPoly => exact congrArg (fun c => c.2.2) (hgroups .field (by decide))
  | macIv => exact congrArg (BitVec.setWidth 32) (hgroups .iv (by decide))
  | macTag => exact congrArg (BitVec.setWidth 32) (hgroups .hash (by decide)).2
  | macHash => exact congrArg (BitVec.setWidth 32) (hgroups .hash (by decide)).1
  | ksRounds =>
    have hcipher : t.ksCR = s.ksCR := congrArg (fun c => c.2.1) (hgroups .schedule (by decide))
    obtain ⟨-, hmac, -⟩ := hgroups .macKey (by decide)
    simp only [readReg, ksRoundsWord, hcipher, hmac]

/-- Settles O23: every command leaves the groups its row does not list, and each register shows its own groups alone. -/
theorem commandsWriteOnlyTheirRow : Obligations.CommandsWriteOnlyTheirRow := by
  intro i s t h
  obtain ⟨-, huntouched⟩ := exec_finishes h
  refine ⟨huntouched, fun g hg => exec_groupSame h hg, fun off hoff => ?window⟩
  case window =>
    have hword : windowWord Config.machine t (off &&& 0xFC#8) = windowWord Config.machine s (off &&& 0xFC#8) := by
      unfold windowWord
      split
      · next r hreg =>
        obtain ⟨hstatus, hother⟩ := hoff r hreg
        exact readReg_eq_of_groupSame _ huntouched hstatus fun g hmem => exec_groupSame h fun hg => hother g hg hmem
      · rfl
    rw [windowByte, windowByte, hword]

end Sys2Proof.EncodingProofs
end

section
/-! SUPPORT. Integers as polynomials over GF(2): XOR is addition, a shift is a power of x, the carry-less product is the product
(40_gf_multiplier.md R130; 00_scope.md R11). -/

namespace Sys2Proof.GfProofs

open Polynomial
open Sys2Proof Sys2Proof.Machine

/-! ### Integers as polynomials -/

/-- The polynomial over GF(2) that an integer packs: bit i is the coefficient of x^i (R130). Bit i of n is 0 from i = n on. -/
noncomputable def polyOf (n : Nat) : (ZMod 2)[X] := ∑ i ∈ Finset.range n, if n.testBit i then X ^ i else 0

/-- The coefficients of a sum over the low n bits of an integer. -/
theorem coeff_sum_bits (b n k : Nat) :
    (∑ i ∈ Finset.range n, if b.testBit i then (X : (ZMod 2)[X]) ^ i else 0).coeff k = if k < n ∧ b.testBit k then 1 else 0 := by
  have hterm (i : Nat) : (if b.testBit i then (X : (ZMod 2)[X]) ^ i else 0).coeff k =
      if k = i then (if b.testBit i then 1 else 0) else 0 := by
    split <;> simp [coeff_X_pow]
  simp only [finsetSum_coeff, hterm, Finset.sum_ite_eq, Finset.mem_range, ite_and]

@[simp] theorem coeff_polyOf (n k : Nat) : (polyOf n).coeff k = if n.testBit k then 1 else 0 := by
  have hlow : n.testBit k = true → k < n := fun hk => Nat.lt_two_pow_self.trans_le (Nat.ge_two_pow_of_testBit hk)
  simp only [polyOf, coeff_sum_bits, and_iff_right_of_imp hlow]

theorem polyOf_zero : polyOf 0 = 0 := rfl

theorem polyOf_one : polyOf 1 = 1 := by simp [polyOf]

/-- Addition of polynomials over GF(2) is XOR (R130). -/
theorem polyOf_xor (a b : Nat) : polyOf (a ^^^ b) = polyOf a + polyOf b := by
  ext k
  have hbits (x y : Bool) : (if (x ^^ y) then (1 : ZMod 2) else 0) = (if x then 1 else 0) + if y then 1 else 0 := by
    revert x y; decide
  simp only [coeff_polyOf, coeff_add, Nat.testBit_xor, hbits]

theorem polyOf_shiftLeft (a k : Nat) : polyOf (a <<< k) = polyOf a * X ^ k := by
  ext j
  by_cases hj : k ≤ j <;> simp [coeff_mul_X_pow', Nat.testBit_shiftLeft, hj]

theorem polyOf_injective : Function.Injective polyOf := by
  intro a b h
  have hbit : ∀ x y : Bool, (if x then (1 : ZMod 2) else 0) = (if y then 1 else 0) → x = y := by decide
  exact Nat.eq_of_testBit_eq fun k => hbit _ _ (by rw [← coeff_polyOf, ← coeff_polyOf, h])

/-- Every polynomial over GF(2) is packed by an integer: XOR of shifted ones. -/
theorem polyOf_surjective : Function.Surjective polyOf := by
  intro f
  induction f using Polynomial.induction_on' with
  | add f g hf hg =>
    obtain ⟨a, rfl⟩ := hf
    obtain ⟨b, rfl⟩ := hg
    exact ⟨a ^^^ b, polyOf_xor a b⟩
  | monomial k c =>
    obtain rfl | rfl : c = 0 ∨ c = 1 := by revert c; decide
    · exact ⟨0, by rw [monomial_zero_right, polyOf_zero]⟩
    · exact ⟨1 <<< k, by rw [polyOf_shiftLeft, polyOf_one, one_mul, monomial_one_right_eq_X_pow]⟩

theorem degree_polyOf_lt {a m : Nat} (ha : a < 2 ^ m) : (polyOf a).degree < m := by
  refine (degree_lt_iff_coeff_zero _ _).mpr fun k hk => ?_
  simp [Nat.testBit_lt_two_pow (ha.trans_le (Nat.pow_le_pow_right two_pos hk))]

/-- The low n bits of an integer, term by term. -/
theorem polyOf_mod_two_pow (b n : Nat) : polyOf (b % 2 ^ n) = ∑ k ∈ Finset.range n, if b.testBit k then X ^ k else 0 := by
  ext j
  simp only [coeff_sum_bits, coeff_polyOf, Nat.testBit_mod_two_pow, Bool.and_eq_true, decide_eq_true_eq]

/-- An integer is its bit 0 and x times the rest. -/
theorem polyOf_eq_low_bit_add (b : Nat) : polyOf b = (if b.testBit 0 then (1 : (ZMod 2)[X]) else 0) + polyOf (b >>> 1) * X := by
  ext k
  rw [coeff_add, coeff_polyOf]
  cases k with
  | zero => split <;> simp
  | succ k =>
    rw [coeff_mul_X, coeff_polyOf, Nat.testBit_shiftRight, Nat.add_comm 1 k]
    split_ifs <;> simp [coeff_one]

/-! ### The carry-less product -/

theorem and_mask (a m : Nat) : a &&& ((1 <<< m) - 1) = a % 2 ^ m := by
  rw [Nat.one_shiftLeft, Nat.and_two_pow_sub_one_eq_mod]

/-- bitlen(v) bits hold v (00_scope.md R11). -/
theorem lt_two_pow_bitLen (v : Nat) : v < 2 ^ bitLen v := by
  unfold bitLen
  split
  · next hv => simp [hv]
  · exact Nat.lt_log2_self

/-- A loop that XORs chosen values into an accumulator, under a map that takes XOR to addition, is a sum. -/
theorem map_foldl_xor {M : Type} [AddCommMonoid M] {φ : Nat → M} (hφ : ∀ a b, φ (a ^^^ b) = φ a + φ b)
    (f : Nat → Bool) (g : Nat → Nat) (init n : Nat) :
    φ ((List.range n).foldl (fun c k => if f k then c ^^^ g k else c) init) =
      φ init + ∑ k ∈ Finset.range n, if f k then φ (g k) else 0 := by
  induction n with
  | zero => simp
  | succ n ih =>
    rw [List.range_succ, List.foldl_append, Finset.sum_range_succ, ← add_assoc, ← ih]
    cases hf : f n <;> simp [hf, hφ]

/-- The carry-less product by the low n bits is the product of polynomials (00_scope.md R11). -/
theorem polyOf_clMul (n a b : Nat) : polyOf (clMul n a b) = polyOf a * polyOf (b % 2 ^ n) := by
  rw [clMul, map_foldl_xor polyOf_xor, polyOf_zero, zero_add, polyOf_mod_two_pow, Finset.mul_sum]
  refine Finset.sum_congr rfl fun k _ => ?_
  rw [polyOf_shiftLeft, mul_ite, mul_zero]

theorem polyOf_clMul_bitLen (a b : Nat) : polyOf (clMul (bitLen b) a b) = polyOf a * polyOf b := by
  rw [polyOf_clMul, Nat.mod_eq_of_lt (lt_two_pow_bitLen b)]

/-- A loop that XORs values below 2^w stays below 2^w. -/
theorem foldl_xor_lt {f : Nat → Bool} {g : Nat → Nat} {init n w : Nat} (hinit : init < 2 ^ w) (hg : ∀ k < n, g k < 2 ^ w) :
    (List.range n).foldl (fun c k => if f k then c ^^^ g k else c) init < 2 ^ w := by
  induction n with
  | zero => exact hinit
  | succ n ih =>
    have hinitial := ih fun k hk => hg k (hk.trans n.lt_succ_self)
    rw [List.range_succ, List.foldl_append, List.foldl_cons, List.foldl_nil]
    split
    · exact Nat.xor_lt_two_pow hinitial (hg n n.lt_succ_self)
    · exact hinitial

/-- The product of a value of i bits by n bits has at most i + n - 1 bits. -/
theorem clMul_lt {a b i n w : Nat} (ha : a < 2 ^ i) (hw : i + n ≤ w + 1) : clMul n a b < 2 ^ w := by
  refine foldl_xor_lt (Nat.two_pow_pos w) fun k hk => ?_
  calc a <<< k = a * 2 ^ k := Nat.shiftLeft_eq a k
    _ < 2 ^ i * 2 ^ k := Nat.mul_lt_mul_of_pos_right ha (Nat.two_pow_pos k)
    _ = 2 ^ (i + k) := (pow_add 2 i k).symm
    _ ≤ 2 ^ w := Nat.pow_le_pow_right two_pos (by omega)

end Sys2Proof.GfProofs
end

section
/-! SUPPORT. Residues modulo P* (40_gf_multiplier.md R132). Every form of the multiplier keeps the residue, and a value below 2^m is fixed by
its residue; so each form is known by its residue and its bound. -/

namespace Sys2Proof.GfProofs

open Polynomial
open Sys2Proof Sys2Proof.Machine

/-! ### The modulus P* -/

/-- P* is x^m and the low m bits of P (R132). -/
theorem polyStar_eq (m p : Nat) : polyStar m p = (1 <<< m) ^^^ (p % 2 ^ m) := by
  refine Nat.eq_of_testBit_eq fun k => ?_
  obtain hk | rfl | hk := lt_trichotomy k m
  · simp [polyStar, Nat.testBit_shiftLeft, hk, Nat.not_le.mpr hk]
  · simp [polyStar]
  · simp [polyStar, Nat.testBit_mod_two_pow, hk.not_gt]

theorem polyOf_polyStar (m p : Nat) : polyOf (polyStar m p) = X ^ m + polyOf (p % 2 ^ m) := by
  rw [polyStar_eq, polyOf_xor, polyOf_shiftLeft, polyOf_one, one_mul]

/-- The divisor of R132 has degree exactly m, whatever P is. -/
theorem degree_polyStar (m p : Nat) : (polyOf (polyStar m p)).degree = m := by
  have hlow : (polyOf (p % 2 ^ m)).degree < ((X : (ZMod 2)[X]) ^ m).degree := by
    rw [degree_X_pow]
    exact degree_polyOf_lt (Nat.mod_lt p (Nat.two_pow_pos m))
  rw [polyOf_polyStar, degree_add_eq_left_of_degree_lt hlow, degree_X_pow]

@[simp] theorem testBit_polyStar (m p : Nat) : (polyStar m p).testBit m = true := by simp [polyStar]

theorem polyStar_lt (m p : Nat) : polyStar m p < 2 ^ (m + 1) := by
  have hone : 1 <<< m < 2 ^ (m + 1) := by rw [Nat.one_shiftLeft]; exact Nat.pow_lt_pow_right one_lt_two m.lt_succ_self
  exact Nat.or_lt_two_pow hone ((Nat.mod_lt p (Nat.two_pow_pos m)).trans (Nat.pow_lt_pow_right one_lt_two m.lt_succ_self))

/-- P* keeps the low m bits of P. -/
theorem polyStar_mod_two_pow (m p : Nat) : polyStar m p % 2 ^ m = p % 2 ^ m := by
  rw [polyStar, Nat.or_mod_two_pow, Nat.one_shiftLeft, Nat.mod_self, Nat.zero_or, Nat.mod_mod]

/-! ### Residues modulo P* -/

/-- The class of an integer modulo P*, in GF(2)[x] / (P*) (R132). -/
noncomputable def residue (m p a : Nat) : AdjoinRoot (polyOf (polyStar m p)) := AdjoinRoot.mk _ (polyOf a)

/-- The class of x, bit 1 of an integer. -/
noncomputable def root (m p : Nat) : AdjoinRoot (polyOf (polyStar m p)) := AdjoinRoot.root _

section Residue

variable {m p : Nat}

@[simp] theorem residue_zero : residue m p 0 = 0 := by rw [residue, polyOf_zero, map_zero]

@[simp] theorem residue_one : residue m p 1 = 1 := by rw [residue, polyOf_one, map_one]

theorem residue_xor (a b : Nat) : residue m p (a ^^^ b) = residue m p a + residue m p b := by
  rw [residue, polyOf_xor, map_add]; rfl

theorem residue_shiftLeft (a k : Nat) : residue m p (a <<< k) = residue m p a * root m p ^ k := by
  rw [residue, polyOf_shiftLeft, map_mul, map_pow, AdjoinRoot.mk_X]; rfl

@[simp] theorem residue_polyStar : residue m p (polyStar m p) = 0 := AdjoinRoot.mk_self

theorem residue_clMul (n a b : Nat) : residue m p (clMul n a b) = residue m p a * residue m p (b % 2 ^ n) := by
  rw [residue, polyOf_clMul, map_mul]; rfl

theorem residue_mod_two_pow (b n : Nat) :
    residue m p (b % 2 ^ n) = ∑ k ∈ Finset.range n, if b.testBit k then root m p ^ k else 0 := by
  rw [residue, polyOf_mod_two_pow, map_sum]
  refine Finset.sum_congr rfl fun k _ => ?_
  rw [apply_ite (AdjoinRoot.mk _), map_zero, map_pow, AdjoinRoot.mk_X]; rfl

/-- The low i + n bits of an integer are its low i bits and the n bits from bit i on. -/
theorem residue_mod_two_pow_add (b i n : Nat) : residue m p (b % 2 ^ (i + n)) =
    residue m p (b % 2 ^ i) + ∑ k ∈ Finset.range n, if b.testBit (i + k) then root m p ^ (i + k) else 0 := by
  rw [residue_mod_two_pow, Finset.sum_range_add, ← residue_mod_two_pow]

theorem residue_eq_low_bit_add (b : Nat) :
    residue m p b = (if b.testBit 0 then 1 else 0 : AdjoinRoot (polyOf (polyStar m p))) + residue m p (b >>> 1) * root m p := by
  rw [residue, polyOf_eq_low_bit_add b, map_add, map_mul, AdjoinRoot.mk_X, apply_ite (AdjoinRoot.mk _), map_zero, map_one]; rfl

/-- Below 2^m an integer is determined by its residue: the remainder by P* is unique (R132). -/
theorem eq_of_residue_eq {a b : Nat} (ha : a < 2 ^ m) (hb : b < 2 ^ m) (h : residue m p a = residue m p b) : a = b := by
  have hdvd : polyOf (polyStar m p) ∣ polyOf a - polyOf b := AdjoinRoot.mk_eq_mk.mp h
  have hdeg : (polyOf a - polyOf b).degree < (polyOf (polyStar m p)).degree := by
    rw [degree_polyStar]
    exact (degree_sub_le _ _).trans_lt (max_lt (degree_polyOf_lt ha) (degree_polyOf_lt hb))
  exact polyOf_injective (sub_eq_zero.mp (eq_zero_of_dvd_of_degree_lt hdvd hdeg))

/-- Integers of one residue differ by a carry-less multiple of P* (R132). -/
theorem exists_multiple_of_residue_eq {a b : Nat} (h : residue m p a = residue m p b) :
    ∃ q : Nat, a = clMul (bitLen q) (polyStar m p) q ^^^ b := by
  obtain ⟨f, hf⟩ : polyOf (polyStar m p) ∣ polyOf a - polyOf b := AdjoinRoot.mk_eq_mk.mp h
  obtain ⟨q, rfl⟩ := polyOf_surjective f
  exact ⟨q, polyOf_injective (by rw [polyOf_xor, polyOf_clMul_bitLen, ← hf, sub_add_cancel])⟩

end Residue

/-! ### The reduction by P* -/

/-- XOR with a value of the same top bit clears that bit, so one conditional XOR shortens a value by a bit. -/
theorem ite_xor_lt {c d k : Nat} (hc : c < 2 ^ (k + 1)) (hd : d < 2 ^ (k + 1)) (htop : d.testBit k = true) :
    (if c.testBit k then c ^^^ d else c) < 2 ^ k := by
  have hclear {e : Nat} (he : e < 2 ^ (k + 1)) (hbit : e.testBit k = false) : e < 2 ^ k := by
    refine Nat.lt_pow_two_of_testBit e fun j hj => ?_
    obtain rfl | hj := hj.eq_or_lt
    · exact hbit
    · exact Nat.testBit_lt_two_pow (he.trans_le (Nat.pow_le_pow_right two_pos hj))
  split
  · next hbit => exact hclear (Nat.xor_lt_two_pow hc hd) (by simp [hbit, htop])
  · next hbit => exact hclear hc (by simpa using hbit)

section Reduction

variable {m p : Nat}

/-- A division step adds a multiple of P* (R133). -/
theorem residue_reduceDown (n c : Nat) : residue m p (reduceDown m (polyStar m p) n c) = residue m p c := by
  induction n generalizing c with
  | zero => rfl
  | succ n ih =>
    rw [reduceDown, ih]
    split
    · rw [residue_xor, residue_shiftLeft, residue_polyStar, zero_mul, add_zero]
    · rfl

/-- A division step clears the top bit (R133). -/
theorem reduceDown_lt {n c : Nat} (hc : c < 2 ^ (m + n)) : reduceDown m (polyStar m p) n c < 2 ^ m := by
  induction n generalizing c with
  | zero => exact hc
  | succ n ih =>
    have hlt : polyStar m p <<< n < 2 ^ (m + n + 1) := by
      rw [Nat.shiftLeft_eq, add_right_comm, pow_add]
      exact Nat.mul_lt_mul_of_pos_right (polyStar_lt m p) (Nat.two_pow_pos n)
    exact ih (ite_xor_lt hc hlt (by simp [Nat.testBit_shiftLeft]))

theorem residue_polyMod (c : Nat) : residue m p (polyMod c m (polyStar m p)) = residue m p c := residue_reduceDown _ c

theorem polyMod_lt (c : Nat) : polyMod c m (polyStar m p) < 2 ^ m :=
  reduceDown_lt ((lt_two_pow_bitLen c).trans_le (Nat.pow_le_pow_right two_pos (by omega)))

theorem residue_reductionConstant (k : Nat) : residue m p (reductionConstant m p k) = root m p ^ k := by
  rw [reductionConstant, residue_polyMod, residue_shiftLeft, residue_one, one_mul]

/-! ### The loop of R131 -/

/-- A pass over p1 with the whole of P* multiplies by x modulo P* (R131). -/
theorem residue_timesX_polyStar (x : Nat) : residue m p (timesX m (polyStar m p) x) = residue m p x * root m p := by
  have hshift : residue m p (x <<< 1) = residue m p x * root m p := by rw [residue_shiftLeft, pow_one]
  unfold timesX
  dsimp only
  split
  · rw [residue_xor, hshift, residue_polyStar, add_zero]
  · exact hshift

theorem timesX_polyStar_lt {x : Nat} (hx : x < 2 ^ m) : timesX m (polyStar m p) x < 2 ^ m := by
  have hshift : x <<< 1 < 2 ^ (m + 1) := by rw [Nat.shiftLeft_eq]; omega
  exact ite_xor_lt hshift (polyStar_lt m p) (testBit_polyStar m p)

/-- The low m bits of a pass depend on the low m bits of p1 and of P alone, and are the pass with the whole of P* (R131, R136). -/
theorem timesX_mod_two_pow {q : Nat} (hm : 1 ≤ m) (hq : q % 2 ^ m = p % 2 ^ m) (x : Nat) :
    timesX m q x % 2 ^ m = timesX m (polyStar m p) (x % 2 ^ m) := by
  have hcarry : ((x % 2 ^ m) <<< 1).testBit m = (x <<< 1).testBit m := by
    have hbit : m - 1 < m := Nat.sub_lt hm one_pos
    simp [Nat.testBit_shiftLeft, Nat.testBit_mod_two_pow, hbit]
  have hshift : (x % 2 ^ m) <<< 1 % 2 ^ m = x <<< 1 % 2 ^ m := by
    rw [Nat.shiftLeft_eq, Nat.shiftLeft_eq, Nat.mod_mul_mod]
  rw [← Nat.mod_eq_of_lt (timesX_polyStar_lt (p := p) (Nat.mod_lt x (Nat.two_pow_pos m)))]
  unfold timesX
  dsimp only
  rw [hcarry]
  split
  · rw [Nat.xor_mod_two_pow, Nat.xor_mod_two_pow, hshift, polyStar_mod_two_pow, hq]
  · exact hshift.symm

/-- The accumulator of R131's loop gains p1 times p2, modulo P* and in the low m bits. -/
theorem residue_gfMulLoop {q : Nat} (hm : 1 ≤ m) (hq : q % 2 ^ m = p % 2 ^ m) {n p2 : Nat} (hn : p2 < 2 ^ n) (p1 r : Nat) :
    residue m p (gfMulLoop n p1 p2 m q r % 2 ^ m) = residue m p (r % 2 ^ m) + residue m p (p1 % 2 ^ m) * residue m p p2 := by
  induction n generalizing p1 p2 r with
  | zero => simp [gfMulLoop, Nat.lt_one_iff.mp hn]
  | succ n ih =>
    unfold gfMulLoop
    split
    · next hz => simp [hz]
    · have hrest : p2 >>> 1 < 2 ^ n := by rw [Nat.shiftRight_eq_div_pow]; omega
      rw [ih hrest, timesX_mod_two_pow hm hq, residue_timesX_polyStar, residue_eq_low_bit_add p2]
      split
      · rw [Nat.xor_mod_two_pow, residue_xor]; ring
      · ring

/-- GFMUL is the product of the masked multiplicand by the multiplier, modulo P* (R131). -/
theorem residue_gfMul (hm : 1 ≤ m) (p1 p2 : Nat) :
    residue m p (gfMul p1 p2 m p) = residue m p (p1 % 2 ^ m) * residue m p p2 := by
  rw [gfMul, and_mask, residue_gfMulLoop hm rfl (lt_two_pow_bitLen p2), Nat.zero_mod, residue_zero, zero_add]

theorem gfMul_lt (p1 p2 m p : Nat) : gfMul p1 p2 m p < 2 ^ m := by
  rw [gfMul, and_mask]
  exact Nat.mod_lt _ (Nat.two_pow_pos m)

/-- A value below 2^m of the right residue is GFMUL. -/
theorem eq_gfMul_of_residue {a p1 p2 : Nat} (hm : 1 ≤ m) (ha : a < 2 ^ m)
    (h : residue m p a = residue m p (p1 % 2 ^ m) * residue m p p2) : a = gfMul p1 p2 m p :=
  eq_of_residue_eq ha (gfMul_lt p1 p2 m p) (h.trans (residue_gfMul hm p1 p2).symm)

end Reduction

end Sys2Proof.GfProofs
end

section
/-! SUPPORT. GFMUL's closed form, its laws, and the XOR tree (40_gf_multiplier.md R132, R133, R137, R138, R143). -/

namespace Sys2Proof.GfProofs

open Sys2Proof Sys2Proof.Machine

/-! ### The closed form and the laws -/

/-- Settles O46: both sides are below 2^m and have the residue of the carry-less product, which therefore differs by a multiple of P*. -/
theorem gfMulHasTheClosedForm : Obligations.GfMulHasTheClosedForm := by
  intro p1 p2 m p hm
  have hproduct : residue m p (clMul (bitLen p2) (p1 % 2 ^ m) p2) = residue m p (p1 % 2 ^ m) * residue m p p2 := by
    rw [residue_clMul, Nat.mod_eq_of_lt (lt_two_pow_bitLen p2)]
  refine ⟨?closed, gfMul_lt p1 p2 m p, exists_multiple_of_residue_eq (hproduct.trans (residue_gfMul hm p1 p2).symm)⟩
  case closed => exact (eq_gfMul_of_residue hm (polyMod_lt _) ((residue_polyMod _).trans hproduct)).symm

/-- Settles O49: each law holds of the residues, in the commutative ring GF(2)[x] / (P*), and each side is below 2^m. -/
theorem gfMulObeysTheFieldLaws : Obligations.GfMulObeysTheFieldLaws := by
  intro a b c m p hm ha hb hc
  have hlt (u v : Nat) : gfMul u v m p < 2 ^ m := gfMul_lt u v m p
  have hres {u : Nat} (hu : u < 2 ^ m) (v : Nat) : residue m p (gfMul u v m p) = residue m p u * residue m p v := by
    rw [residue_gfMul hm, Nat.mod_eq_of_lt hu]
  have heq {u v w : Nat} (hu : u < 2 ^ m) (hw : w < 2 ^ m) (h : residue m p w = residue m p u * residue m p v) :
      gfMul u v m p = w := eq_of_residue_eq (hlt u v) hw ((hres hu v).trans h.symm)
  refine ⟨?comm, ?zero, ?one, ?assoc, ?distrib, hlt a b⟩
  case comm => exact heq ha (hlt b a) (by rw [hres hb, mul_comm])
  case zero => exact heq ha (Nat.two_pow_pos m) (by rw [residue_zero, mul_zero])
  case one => exact heq ha ha (by rw [residue_one, mul_one])
  case assoc => exact heq (hlt a b) (hlt a _) (by rw [hres ha, hres ha, hres hb, mul_assoc])
  case distrib =>
    exact heq ha (Nat.xor_lt_two_pow (hlt a b) (hlt a c)) (by rw [residue_xor, residue_xor, hres ha, hres ha, mul_add])

/-- Settles O50: p2 has the residue of its remainder, and the closed form reads P in P* alone. -/
theorem gfMulOutsideTheField : Obligations.GfMulOutsideTheField := by
  refine ⟨fun p1 p2 m p hm => ⟨?truncated, ?reduced, fun q hq => ?modulus⟩, by decide, by decide⟩
  case truncated =>
    refine eq_gfMul_of_residue hm (gfMul_lt p1 p2 m p) ?_
    rw [residue_gfMul hm, Nat.mod_mod]
  case reduced =>
    refine eq_gfMul_of_residue hm (gfMul_lt p1 p2 m p) ?_
    rw [residue_gfMul hm, residue_polyMod]
  case modulus =>
    have hclosed (r : Nat) : gfMul p1 p2 m r = gfClosedForm p1 p2 m r := (gfMulHasTheClosedForm p1 p2 m r hm).1
    rw [hclosed, hclosed, gfClosedForm, gfClosedForm, polyStar, polyStar, hq]

/-- Settles O51: the 15 divisions and the product are evaluated. -/
theorem defaultFieldConstantsAgree : Obligations.DefaultFieldConstantsAgree := by
  unfold Obligations.DefaultFieldConstantsAgree
  decide

/-! ### The XOR tree and its reduction matrix -/

section Ports

variable {m p : Nat}

/-- The product at the ports has at most 2M - 1 bits, m of them kept and the others reduced (R133). -/
theorem clMul_ports_lt (a b : GfWord) (hmax : m ≤ 16) :
    clMul Config.gfMMax (a.toNat % 2 ^ m) b.toNat < 2 ^ (m + (2 * Config.gfMMax - 1 - m)) :=
  clMul_lt ((Nat.mod_le _ _).trans_lt a.isLt) (by simp only [Config.gfMMax]; omega)

theorem residue_clMul_ports (a b : GfWord) :
    residue m p (clMul Config.gfMMax (a.toNat % 2 ^ m) b.toNat) = residue m p (a.toNat % 2 ^ m) * residue m p b.toNat := by
  rw [residue_clMul, Nat.mod_eq_of_lt b.isLt]

/-- The unrolled reduction leaves the remainder (R133). -/
theorem gfMulComb_ports (a b : GfWord) (hm : 1 ≤ m) (hmax : m ≤ 16) : gfMulComb a.toNat b.toNat m p = gfMul a.toNat b.toNat m p := by
  have hlt := reduceDown_lt (p := p) (clMul_ports_lt a b hmax)
  rw [gfMulComb, and_mask, and_mask, Nat.mod_eq_of_lt hlt]
  exact eq_gfMul_of_residue hm hlt ((residue_reduceDown _ _).trans (residue_clMul_ports a b))

/-- The reduction matrix replaces each x^k with k >= m by its remainder (R133). -/
theorem gfMulMatrix_ports (a b : GfWord) (hm : 1 ≤ m) (hmax : m ≤ 16) :
    gfMulMatrix a.toNat b.toNat m p = gfMul a.toNat b.toNat m p := by
  rw [gfMulMatrix, and_mask, and_mask]
  refine eq_gfMul_of_residue hm (foldl_xor_lt (Nat.mod_lt _ (Nat.two_pow_pos m)) fun k _ => polyMod_lt _) ?_
  have hproduct := residue_mod_two_pow_add (m := m) (p := p) (clMul Config.gfMMax (a.toNat % 2 ^ m) b.toNat) m
    (2 * Config.gfMMax - 1 - m)
  rw [Nat.mod_eq_of_lt (clMul_ports_lt a b hmax), residue_clMul_ports] at hproduct
  simp only [map_foldl_xor residue_xor, residue_reductionConstant, hproduct]

end Ports

/-- Settles O47: at the ports both forms have GFMUL's residue and are below 2^m. -/
theorem xorTreeEqualsGfMul : Obligations.XorTreeEqualsGfMul :=
  fun a b _ _ hm hmax => ⟨gfMulComb_ports a b hm hmax, gfMulMatrix_ports a b hm hmax⟩

end Sys2Proof.GfProofs
end

section
/-! SUPPORT. The iterative datapath runs R131's loop (40_gf_multiplier.md R135), and the commands GF_CONFIGURE and GF_MUL (R140, R141). -/

namespace Sys2Proof.GfProofs

open Sys2Proof Sys2Proof.Machine Sys2Proof.Laws Sys2Proof.StateProofs Sys2Proof.EncodingProofs

/-! ### The iterative datapath -/

/-- The datapath's mask keeps the low m bits, for every degree up to the ports' width (R135). -/
theorem toNat_and_mask (x : GfWord) {m : Nat} (hmax : m ≤ 16) : (x &&& ((1#16 <<< m) - 1#16)).toNat = x.toNat % 2 ^ m := by
  have hmask : ∀ k ≤ 16, ((1#16 <<< k) - 1#16).toNat = 2 ^ k - 1 := by decide
  rw [BitVec.toNat_and, hmask m hmax, Nat.and_two_pow_sub_one_eq_mod]

section Datapath

variable {m p : Nat} {r : BitVec 17 × GfWord × GfWord}

/-- One iteration takes GP1 through a pass of R131's loop with P*: the 18-bit and 17-bit registers lose no bit (R135). -/
theorem toNat_iterCycle_gp1 (hmax : m ≤ 16) (hr : r.1.toNat < 2 ^ m) :
    (iterCycle m p r).1.toNat = timesX m (polyStar m p) r.1.toNat := by
  have hpow : 2 ^ m ≤ 2 ^ 16 := Nat.pow_le_pow_right two_pos hmax
  have hshift : (r.1.setWidth 18 <<< 1).toNat = r.1.toNat <<< 1 := by
    rw [BitVec.toNat_shiftLeft, BitVec.toNat_setWidth_of_le (by decide), Nat.shiftLeft_eq, Nat.mod_eq_of_lt (by omega)]
  have hstar : (BitVec.ofNat 18 (polyStar m p)).toNat = polyStar m p :=
    toNat_ofNat_of_lt ((polyStar_lt m p).trans_le (Nat.pow_le_pow_right two_pos (by omega)))
  have hpass : (iterCycle m p r).1.toNat = timesX m (polyStar m p) r.1.toNat % 2 ^ 17 := by
    simp only [iterCycle, timesX, BitVec.toNat_setWidth, apply_ite BitVec.toNat, BitVec.toNat_xor, hshift, hstar, BitVec.getLsbD]
  rw [hpass, Nat.mod_eq_of_lt ((timesX_polyStar_lt hr).trans (by omega))]

theorem toNat_iterCycle_gp2 : (iterCycle m p r).2.1.toNat = r.2.1.toNat >>> 1 := by
  simp [iterCycle]

theorem toNat_iterCycle_gacc (hmax : m ≤ 16) (hr : r.1.toNat < 2 ^ m) :
    (iterCycle m p r).2.2.toNat = if r.2.1.toNat.testBit 0 then r.2.2.toNat ^^^ r.1.toNat else r.2.2.toNat := by
  have hgp1 : (r.1.setWidth 16).toNat = r.1.toNat := by
    rw [BitVec.toNat_setWidth, Nat.mod_eq_of_lt (hr.trans_le (Nat.pow_le_pow_right two_pos hmax))]
  simp only [iterCycle, apply_ite BitVec.toNat, BitVec.toNat_xor, hgp1, BitVec.getLsbD]

/-- The datapath runs R131's loop, with P* in place of P. -/
theorem toNat_iterRun_gacc (hmax : m ≤ 16) (n : Nat) (hr : r.1.toNat < 2 ^ m) :
    (iterRun m p n r).2.2.toNat = gfMulLoop n r.1.toNat r.2.1.toNat m (polyStar m p) r.2.2.toNat := by
  induction n generalizing r with
  | zero => rfl
  | succ n ih =>
    have hzero : r.2.1 = 0#16 ↔ r.2.1.toNat = 0 := by rw [← BitVec.toNat_inj]; rfl
    have hnext : (iterCycle m p r).1.toNat < 2 ^ m := by
      rw [toNat_iterCycle_gp1 hmax hr]
      exact timesX_polyStar_lt hr
    simp only [iterRun, gfMulLoop, hzero]
    split
    · rfl
    · rw [ih hnext, toNat_iterCycle_gp1 hmax hr, toNat_iterCycle_gp2, toNat_iterCycle_gacc hmax hr]

end Datapath

/-- Settles O48: the datapath's run is R131's loop on the masked multiplicand, whose low m bits are GFMUL. -/
theorem iterativeDatapathEqualsGfMul : Obligations.IterativeDatapathEqualsGfMul := by
  intro a b m p hm hmax
  have hmasked : (iterStart a b m).1.toNat = a.toNat % 2 ^ m := by
    rw [iterStart, BitVec.toNat_setWidth_of_le (by decide), toNat_and_mask a hmax]
  have hlow : a.toNat % 2 ^ m < 2 ^ m := Nat.mod_lt _ (Nat.two_pow_pos m)
  rw [gfMulIter, iterResult, toNat_and_mask _ hmax, toNat_iterRun_gacc hmax _ (hmasked.trans_lt hlow), hmasked]
  refine eq_gfMul_of_residue hm (Nat.mod_lt _ (Nat.two_pow_pos m)) ?_
  rw [residue_gfMulLoop hm (polyStar_mod_two_pow m p) (iterStart a b m).2.1.isLt, Nat.mod_mod]
  simp [iterStart]

/-! ### The commands -/

/-- P has degree exactly m when its bit m is its top bit (R140). -/
theorem fieldParamsOk_iff (m : Nat) (p : Word) :
    fieldParamsOk m p = true ↔ 1 ≤ m ∧ m ≤ 16 ∧ 2 ^ m ≤ p.toNat ∧ p.toNat < 2 ^ (m + 1) := by
  have habove : p >>> (m + 1) = 0#32 ↔ p.toNat < 2 ^ (m + 1) := by
    rw [← BitVec.toNat_inj, BitVec.toNat_ushiftRight, Nat.shiftRight_eq_div_pow]
    exact Nat.div_eq_zero_iff_lt (Nat.two_pow_pos _)
  have htop (hlt : p.toNat < 2 ^ (m + 1)) : p.getLsbD m = true ↔ 2 ^ m ≤ p.toNat :=
    ⟨Nat.ge_two_pow_of_testBit, fun hge => Nat.testBit_of_two_pow_le_and_two_pow_add_one_gt hge hlt⟩
  simp only [fieldParamsOk, Config.gfMMax, Bool.and_eq_true, decide_eq_true_eq, beq_iff_eq, habove, and_assoc]
  exact and_congr_right fun _ => and_congr_right fun _ => and_congr_left htop

theorem decode_eq_gfConfigure_iff (w : Word) (m : Nat) : decode w = some (.gfConfigure m) ↔ m < 256 ∧ w.toNat = 256 * m + 1 := by
  have hw := w.isLt
  rw [decode_eq_some_iff, cmdOp_eq, cmdArg_eq, cmdRnd_eq, cmdRsv_eq]
  simp only [opField, argField, rndField]
  omega

/-- Settles O29: the words are those of the three fields, and the check is R140's range. -/
theorem gfConfigureSetsTheField : Obligations.GfConfigureSetsTheField := by
  refine ⟨decode_eq_gfConfigure_iff, fun m s => ?_⟩
  obtain ⟨t, h⟩ := exec_answers (.gfConfigure m) s
  rw [h]
  obtain ⟨hok, rfl⟩ | ⟨hbad, rfl⟩ := execGfConfigure_cases h
  · exact ⟨fun _ _ _ _ => rfl, fun hnot => absurd ((fieldParamsOk_iff m _).mp hok) hnot⟩
  · have hnot := mt (fieldParamsOk_iff m s.cur.gfA).mpr (by simp [hbad])
    exact ⟨fun hpos hmax hge hlt => absurd ⟨hpos, hmax, hge, hlt⟩ hnot, fun _ => rfl⟩

/-- The product fits the 16 bits of GF_R in a well-formed field context (R141, 10_state.md R44, R45). -/
theorem toNat_gfmProduct {s : State} (hvalid : s.fieldValid = true) (hfield : FieldContextOk s) (a b : GfWord) :
    (gfmProduct s a b).toNat = gfMul a.toNat b.toNat s.fieldDeg.toNat s.fieldPoly.toNat := by
  simp only [FieldContextOk, hvalid, if_true] at hfield
  obtain ⟨-, hmax, -⟩ := hfield
  exact toNat_ofNat_of_lt ((gfMul_lt _ _ _ _).trans_le (Nat.pow_le_pow_right two_pos hmax))

theorem toNat_gfPort (v : Word) : (gfPort v).toNat = v.toNat % 65536 := BitVec.toNat_setWidth ..

/-- Settles O30: the ports are the operands mod 2^16, and GFMUL is below 2^FIELD_DEG, so GF_R holds all of it. -/
theorem gfMulWritesTheProduct : Obligations.GfMulWritesTheProduct := by
  intro s
  obtain ⟨t, h⟩ := exec_answers .gfMul s
  rw [h]
  obtain ⟨hnone, rfl⟩ | ⟨hvalid, rfl⟩ := execGfMul_cases h
  · have hnot : s.fieldValid ≠ true := by simp [hnone]
    exact ⟨fun hvalid => absurd hvalid hnot, fun hvalid => absurd hvalid hnot, fun _ => rfl⟩
  · refine ⟨fun _ => ?product, fun _ hfield t ht => ?bound, fun hnone => absurd (hnone.symm.trans hvalid) (by decide)⟩
    case product => rw [← toNat_gfPort, ← toNat_gfPort]; rfl
    case bound =>
      obtain rfl := complete_eq_next.mp ht
      rw [← toNat_gfPort, ← toNat_gfPort]
      have hproduct := toNat_gfmProduct hvalid hfield (gfPort s.cur.gfA) (gfPort s.cur.gfB)
      exact ⟨hproduct, hproduct ▸ gfMul_lt _ _ _ _⟩

end Sys2Proof.GfProofs
end

section
/-! SUPPORT. The layers of the round engine: a substitution layer nibble by nibble, a permutation layer bit by bit, and their inverses
(41_cipher.md R170 to R175). -/

namespace Sys2Proof.CipherProofs

open Sys2Proof Sys2Proof.Machine Sys2Proof.Laws

/-! ### The S-boxes -/

theorem sboxInv_sbox : ∀ x : Nibble, sboxInv (sbox x) = x := by decide

theorem sbox_sboxInv : ∀ y : Nibble, sbox (sboxInv y) = y := by decide

/-- Settles O41: the two tables are read off, and each is inverted on its 16 values. -/
theorem sboxTablesAreInverse : Obligations.SboxTablesAreInverse :=
  ⟨by decide, by decide, sboxInv_sbox, sbox_sboxInv⟩

/-! ### Substitution layers -/

/-- Nibble j of a layer's output comes from nibble j of its input alone: the other nibbles are placed beside it (R172). -/
theorem extractLsb'_nibbleLayer {w n j : Nat} (table : Nibble → Nibble) (s : BitVec w) (hj : j < n) (hw : 4 * n ≤ w) :
    (nibbleLayer table n s).extractLsb' (4 * j) 4 = table (s.extractLsb' (4 * j) 4) := by
  ext b hb
  rw [BitVec.getElem_extractLsb', nibbleLayer, getLsbD_foldl_or, BitVec.getLsbD_zero, Bool.false_or, ← BitVec.getLsbD_eq_getElem]
  have hplaced (i : Nat) : ((table (s.extractLsb' (4 * i) 4)).setWidth w <<< (4 * i)).getLsbD (4 * j + b) =
      (decide (i = j) && (table (s.extractLsb' (4 * j) 4)).getLsbD b) := by
    rw [BitVec.getLsbD_shiftLeft, BitVec.getLsbD_setWidth]
    obtain hlt | rfl | hgt := Nat.lt_trichotomy i j
    · rw [BitVec.getLsbD_of_ge _ (4 * j + b - 4 * i) (by omega)]
      simp [hlt.ne]
    · simp [show 4 * i + b < w by omega, show b < w by omega]
    · simp [hgt.ne']
      omega
  simp only [hplaced]
  rw [Bool.eq_iff_iff, List.any_eq_true]
  simp [hj]

/-- A value is determined by its nibbles. -/
theorem eq_of_nibbles {w n : Nat} {x y : BitVec w} (hw : w = 4 * n)
    (h : ∀ j < n, x.extractLsb' (4 * j) 4 = y.extractLsb' (4 * j) 4) : x = y := by
  apply BitVec.eq_of_getLsbD_eq
  intro i hi
  have hbit := congrArg (·.getLsbD (i % 4)) (h (i / 4) (by omega))
  simpa [BitVec.getLsbD_extractLsb', Nat.mod_lt, Nat.div_add_mod] using hbit

/-- A layer of the inverse table undoes a layer of the table. -/
theorem nibbleLayer_nibbleLayer {w n : Nat} {f g : Nibble → Nibble} (hw : w = 4 * n) (hfg : ∀ x, f (g x) = x) (s : BitVec w) :
    nibbleLayer f n (nibbleLayer g n s) = s :=
  eq_of_nibbles hw fun j hj => by
    rw [extractLsb'_nibbleLayer f _ hj hw.ge, extractLsb'_nibbleLayer g _ hj hw.ge, hfg]

/-- Settles O42: the four layers are nibble layers of the two tables. -/
theorem substitutionLayersActOnEachNibble : Obligations.SubstitutionLayersActOnEachNibble :=
  ⟨fun s _ hj => ⟨extractLsb'_nibbleLayer sbox s hj (by decide), extractLsb'_nibbleLayer sboxInv s hj (by decide)⟩,
    fun s _ hj => ⟨extractLsb'_nibbleLayer sbox s hj (by decide), extractLsb'_nibbleLayer sboxInv s hj (by decide)⟩,
    by decide +kernel⟩

/-! ### Permutation layers -/

/-- Two maps of the bit positions below w that undo each other. -/
def UndoOnBits (w : Nat) (p q : Nat → Nat) : Prop := ∀ i < w, p i < w ∧ q i < w ∧ q (p i) = i ∧ p (q i) = i

theorem UndoOnBits.symm {w : Nat} {p q : Nat → Nat} (h : UndoOnBits w p q) : UndoOnBits w q p := fun i hi =>
  let ⟨hp, hq, hqp, hpq⟩ := h i hi
  ⟨hq, hp, hpq, hqp⟩

/-- A permutation layer moves bit i to bit p i, since no other bit moves there (R173 to R175). -/
theorem getLsbD_permuteBits_apply {w i : Nat} {p q : Nat → Nat} (h : UndoOnBits w p q) (s : BitVec w) (hi : i < w) :
    (permuteBits p s).getLsbD (p i) = s.getLsbD i := by
  obtain ⟨hp, -, hqp, -⟩ := h i hi
  have honly : ∀ k < w, p i = p k → k = i := fun k hk he => by
    obtain ⟨-, -, hqpk, -⟩ := h k hk
    rw [← hqpk, ← he, hqp]
  rw [getLsbD_permuteBits, Bool.eq_iff_iff, List.any_eq_true]
  simp only [hp, List.mem_range, Bool.and_eq_true, decide_eq_true_eq, true_and]
  constructor
  · rintro ⟨k, hk, hset, he⟩
    exact honly k hk he ▸ hset
  · exact fun hset => ⟨i, hi, hset, rfl⟩

/-- The layer of the inverse permutation brings each bit back. -/
theorem permuteBits_permuteBits {w : Nat} {p q : Nat → Nat} (h : UndoOnBits w p q) (s : BitVec w) :
    permuteBits q (permuteBits p s) = s := by
  apply BitVec.eq_of_getLsbD_eq
  intro i hi
  obtain ⟨hp, -, hqp, -⟩ := h i hi
  calc (permuteBits q (permuteBits p s)).getLsbD i
      = (permuteBits q (permuteBits p s)).getLsbD (q (p i)) := by rw [hqp]
    _ = (permuteBits p s).getLsbD (p i) := getLsbD_permuteBits_apply h.symm _ hp
    _ = s.getLsbD i := getLsbD_permuteBits_apply h s hi

theorem undoOnBits_p64 : UndoOnBits 64 p64 p64Inv := by
  unfold UndoOnBits
  decide

theorem undoOnBits_pbox (p : Equiv.Perm (Fin 8)) : UndoOnBits 8 (pboxIndex p) (pboxIndex p.symm) := fun i hi => by
  simp [pboxIndex, hi]

theorem pLayerInv64_pLayer64 (s : Block) : pLayerInv64 (pLayer64 s) = s := permuteBits_permuteBits undoOnBits_p64 s

theorem pLayer64_pLayerInv64 (s : Block) : pLayer64 (pLayerInv64 s) = s := permuteBits_permuteBits undoOnBits_p64.symm s

theorem pLayerInv8_pLayer8 (cfg : Config) (s : Byte) : pLayerInv8 cfg (pLayer8 cfg s) = s :=
  permuteBits_permuteBits (undoOnBits_pbox cfg.miniPBox) s

theorem pLayer8_pLayerInv8 (cfg : Config) (s : Byte) : pLayer8 cfg (pLayerInv8 cfg s) = s :=
  permuteBits_permuteBits (undoOnBits_pbox cfg.miniPBox).symm s

/-- Settles O43: each layer is the layer of a permutation with an inverse on the bit positions. -/
theorem permutationLayersMoveEachBit : Obligations.PermutationLayersMoveEachBit := by
  refine ⟨fun s i hi => ?_, fun s => getLsbD_permuteBits_apply undoOnBits_p64 s (by decide : 63 < 64), fun s j hj => ?_,
    fun s => ⟨pLayerInv64_pLayer64 s, pLayer64_pLayerInv64 s⟩, fun cfg s i => ?_,
    fun cfg s => ⟨pLayerInv8_pLayer8 cfg s, pLayer8_pLayerInv8 cfg s⟩⟩
  · have hmoved := getLsbD_permuteBits_apply undoOnBits_p64 s (by omega : i < 64)
    rwa [p64, if_neg (by omega)] at hmoved
  · have hmoved := getLsbD_permuteBits_apply undoOnBits_p64.symm s (by omega : j < 64)
    rwa [p64Inv, if_neg (by omega)] at hmoved
  · have hmoved := getLsbD_permuteBits_apply (undoOnBits_pbox cfg.miniPBox) s i.isLt
    rwa [pboxIndex, dif_pos i.isLt] at hmoved

end Sys2Proof.CipherProofs
end

section
/-! SUPPORT. The rounds: ENC and DEC along a sequence of states, DEC and ENC undo each other, and the commands ENCRYPT and DECRYPT
(41_cipher.md R183, R185, R187, R192, R193). -/

namespace Sys2Proof.CipherProofs

open Sys2Proof Sys2Proof.Machine Sys2Proof.Laws Sys2Proof.StateProofs Sys2Proof.EncodingProofs

/-! ### The rounds undo each other -/

theorem keyedRounds_cons {w : Nat} (layer : BitVec w → BitVec w) (k : BitVec w) {ks : List (BitVec w)} (hks : ks ≠ []) (s : BitVec w) :
    keyedRounds layer (k :: ks) s = keyedRounds layer ks (layer (s ^^^ k)) := by
  obtain ⟨next, rest, rfl⟩ := List.exists_cons_of_ne_nil hks
  rfl

/-- A last key more is one round more: the layers, then the key. -/
theorem keyedRounds_concat {w : Nat} (layer : BitVec w → BitVec w) {ks : List (BitVec w)} (hks : ks ≠ []) (k s : BitVec w) :
    keyedRounds layer (ks ++ [k]) s = layer (keyedRounds layer ks s) ^^^ k := by
  induction ks generalizing s with
  | nil => exact absurd rfl hks
  | cons k' rest ih =>
    obtain rfl | hrest := eq_or_ne rest []
    · rfl
    · rw [List.cons_append, keyedRounds_cons layer k' (by simp), keyedRounds_cons layer k' hrest, ih hrest]

/-- The inverse layers with the keys in reverse order undo the rounds: the first key mixed is the last one undone (R187). -/
theorem keyedRounds_reverse {w : Nat} {layer inv : BitVec w → BitVec w} (hinv : ∀ s, inv (layer s) = s) (ks : List (BitVec w))
    (s : BitVec w) : keyedRounds inv ks.reverse (keyedRounds layer ks s) = s := by
  induction ks generalizing s with
  | nil => rfl
  | cons k rest ih =>
    obtain rfl | hrest := eq_or_ne rest []
    · simp [keyedRounds]
    · rw [keyedRounds_cons layer k hrest, List.reverse_cons, keyedRounds_concat inv (by simpa using hrest), ih, hinv,
        BitVec.xor_assoc, BitVec.xor_self, BitVec.xor_zero]

theorem roundLayerInv64_roundLayer64 (s : Block) : roundLayerInv64 (roundLayer64 s) = s := by
  rw [roundLayerInv64, roundLayer64, pLayerInv64_pLayer64]
  exact nibbleLayer_nibbleLayer (by decide) sboxInv_sbox s

theorem roundLayer64_roundLayerInv64 (s : Block) : roundLayer64 (roundLayerInv64 s) = s := by
  rw [roundLayer64, roundLayerInv64, sBoxLayer64, sBoxLayerInv64, nibbleLayer_nibbleLayer (by decide) sbox_sboxInv,
    pLayer64_pLayerInv64]

theorem roundLayerInv8_roundLayer8 (cfg : Config) (s : Byte) : roundLayerInv8 cfg (roundLayer8 cfg s) = s := by
  rw [roundLayerInv8, roundLayer8, pLayerInv8_pLayer8]
  exact nibbleLayer_nibbleLayer (by decide) sboxInv_sbox s

theorem roundLayer8_roundLayerInv8 (cfg : Config) (s : Byte) : roundLayer8 cfg (roundLayerInv8 cfg s) = s := by
  rw [roundLayer8, roundLayerInv8, sBoxLayer8, sBoxLayerInv8, nibbleLayer_nibbleLayer (by decide) sbox_sboxInv,
    pLayer8_pLayerInv8]

theorem dec64_enc64 (ks : List Block) (x : Block) : dec64 ks (enc64 ks x) = x :=
  keyedRounds_reverse roundLayerInv64_roundLayer64 ks x

theorem enc64_dec64 (ks : List Block) (x : Block) : enc64 ks (dec64 ks x) = x := by
  simpa [enc64, dec64] using keyedRounds_reverse roundLayer64_roundLayerInv64 ks.reverse x

theorem decMini_encMini (cfg : Config) (ks : List Byte) (x : Byte) : decMini cfg ks (encMini cfg ks x) = x :=
  keyedRounds_reverse (roundLayerInv8_roundLayer8 cfg) ks x

theorem encMini_decMini (cfg : Config) (ks : List Byte) (x : Byte) : encMini cfg ks (decMini cfg ks x) = x := by
  simpa [encMini, decMini] using keyedRounds_reverse (roundLayer8_roundLayerInv8 cfg) ks.reverse x

/-- A Mini block in DOUT comes back through the block port (R192, R193). -/
@[simp] theorem miniPort_setWidth (b : Byte) : miniPort (b.setWidth 64) = b :=
  BitVec.setWidth_setWidth_of_le b (by decide) |>.trans (BitVec.setWidth_eq b)

theorem setWidth_miniPort (x : Block) : (miniPort x).setWidth 64 = x &&& 0xFF#64 := by
  ext i hi
  have hmask : (0xFF#64).getLsbD i = decide (i < 8) := by revert i; decide
  simp [miniPort, BitVec.getLsbD_setWidth, ← BitVec.getLsbD_eq_getElem, hmask, hi, Bool.and_comm]

theorem decBlock_encBlock (cfg : Config) (v : Variant) (ks : List Block) (x : Block) :
    decBlock cfg v ks (encBlock cfg v ks x) = if v = .mini then x &&& 0xFF#64 else x := by
  cases v with
  | mini => simp [decBlock, encBlock, decMini_encMini, setWidth_miniPort]
  | noKey => exact dec64_enc64 ks x
  | p80 => exact dec64_enc64 ks x
  | p128 => exact dec64_enc64 ks x

theorem encBlock_decBlock (cfg : Config) (v : Variant) (ks : List Block) (x : Block) :
    encBlock cfg v ks (decBlock cfg v ks x) = if v = .mini then x &&& 0xFF#64 else x := by
  cases v with
  | mini => simp [decBlock, encBlock, encMini_decMini, setWidth_miniPort]
  | noKey => exact enc64_dec64 ks x
  | p80 => exact enc64_dec64 ks x
  | p128 => exact enc64_dec64 ks x

/-! ### The commands ENCRYPT and DECRYPT -/

theorem exec_encrypt_unloaded {s : State} (hnone : s.ksCR = 0#8) : exec .encrypt s = .next (failed .keyNotLoaded s) := if_pos hnone

theorem exec_encrypt_loaded {s : State} (hloaded : s.ksCR ≠ 0#8) :
    exec .encrypt s = .next (completed (writeDout (encBlock Config.machine s.ksCVar (validSchedule s) s.cur.din) s)) :=
  if_neg hloaded

theorem exec_decrypt_unloaded {s : State} (hnone : s.ksCR = 0#8) : exec .decrypt s = .next (failed .keyNotLoaded s) := if_pos hnone

theorem exec_decrypt_loaded {s : State} (hloaded : s.ksCR ≠ 0#8) :
    exec .decrypt s = .next (completed (writeDout (decBlock Config.machine s.ksCVar (validSchedule s) s.cur.din) s)) :=
  if_neg hloaded

/-- DOUT after ENCRYPT, whether it succeeds or not (R192). -/
theorem doutOf_encrypt {s t : State} (h : exec .encrypt s = .next t) :
    doutOf t = if s.ksCR = 0#8 then doutOf s else encBlock Config.machine s.ksCVar (validSchedule s) s.cur.din := by
  split
  · next hnone =>
    obtain rfl := Host.Outcome.next.inj ((exec_encrypt_unloaded hnone).symm.trans h)
    rfl
  · next hloaded =>
    obtain rfl := Host.Outcome.next.inj ((exec_encrypt_loaded hloaded).symm.trans h)
    simp

/-- DOUT after DECRYPT, whether it succeeds or not (R193). -/
theorem doutOf_decrypt {s t : State} (h : exec .decrypt s = .next t) :
    doutOf t = if s.ksCR = 0#8 then doutOf s else decBlock Config.machine s.ksCVar (validSchedule s) s.cur.din := by
  split
  · next hnone =>
    obtain rfl := Host.Outcome.next.inj ((exec_decrypt_unloaded hnone).symm.trans h)
    rfl
  · next hloaded =>
    obtain rfl := Host.Outcome.next.inj ((exec_decrypt_loaded hloaded).symm.trans h)
    simp

/-- ENCRYPT and DECRYPT leave the schedule they use (30_encoding.md R113). -/
theorem schedule_of_block {i : Instr} {s t : State} (hi : i = .encrypt ∨ i = .decrypt) (h : exec i s = .next t) :
    t.ksCR = s.ksCR ∧ t.ksCVar = s.ksCVar ∧ validSchedule t = validSchedule s := by
  have hsame : cipherContext t = cipherContext s :=
    exec_groupSame (g := .schedule) h (by obtain rfl | rfl := hi <;> decide)
  obtain ⟨hfile, hcount, hvar⟩ : t.ksC = s.ksC ∧ t.ksCR = s.ksCR ∧ t.ksCVar = s.ksCVar := by simpa [cipherContext] using hsame
  exact ⟨hcount, hvar, by simp only [validSchedule, hfile, hcount]⟩

/-- Settles O44: the second command finds the schedule and the variant of the first, whose block the inverse rounds undo. -/
theorem decryptUndoesEncrypt : Obligations.DecryptUndoesEncrypt := by
  refine ⟨fun ks x => ⟨dec64_enc64 ks x, enc64_dec64 ks x⟩, fun cfg ks x => ⟨decMini_encMini cfg ks x, encMini_decMini cfg ks x⟩,
    fun s t u hloaded => ⟨fun ht hu => ?_, fun ht hu => ?_⟩⟩
  · obtain ⟨hcount, hvar, hkeys⟩ := schedule_of_block (.inl rfl) ht
    calc doutOf u
        = decBlock Config.machine t.ksCVar (validSchedule t) (doutOf t) := (doutOf_decrypt hu).trans (if_neg (hcount ▸ hloaded))
      _ = decBlock Config.machine s.ksCVar (validSchedule s) (encBlock Config.machine s.ksCVar (validSchedule s) s.cur.din) := by
            rw [hvar, hkeys, doutOf_encrypt ht, if_neg hloaded]
      _ = _ := decBlock_encBlock _ _ _ _
  · obtain ⟨hcount, hvar, hkeys⟩ := schedule_of_block (.inr rfl) ht
    calc doutOf u
        = encBlock Config.machine t.ksCVar (validSchedule t) (doutOf t) := (doutOf_encrypt hu).trans (if_neg (hcount ▸ hloaded))
      _ = encBlock Config.machine s.ksCVar (validSchedule s) (decBlock Config.machine s.ksCVar (validSchedule s) s.cur.din) := by
            rw [hvar, hkeys, doutOf_decrypt ht, if_neg hloaded]
      _ = _ := encBlock_decBlock _ _ _ _

/-! ### The rounds along a sequence of states -/

/-- ENC is the last state of any sequence that follows the rounds, mixed with the last key (R183). -/
theorem keyedRounds_eq_of_sequence {w last : Nat} (layer : BitVec w → BitVec w) {ks : List (BitVec w)} (st : Nat → BitVec w)
    (hlen : ks.length = last + 1) (hround : ∀ i (hi : i < last), st (i + 1) = layer (st i ^^^ ks[i])) :
    keyedRounds layer ks (st 0) = st last ^^^ ks[last] := by
  induction last generalizing ks st with
  | zero =>
    obtain ⟨k, rfl⟩ := List.length_eq_one_iff.mp hlen
    rfl
  | succ last ih =>
    obtain ⟨k, rest, rfl⟩ := List.exists_cons_of_length_eq_add_one hlen
    have hrest : rest.length = last + 1 := by simpa using hlen
    rw [keyedRounds_cons layer k (by rintro rfl; simp at hrest), show layer (st 0 ^^^ k) = st 1 from (hround 0 (by omega)).symm]
    exact ih (fun i => st (i + 1)) hrest fun i hi => hround (i + 1) (by omega)

/-- DEC is the state a sequence reaches downwards from the last key, mixed with the first key (R185). -/
theorem keyedRounds_reverse_eq_of_sequence {w last : Nat} (layer : BitVec w → BitVec w) {ks : List (BitVec w)} (st : Nat → BitVec w)
    (hlen : ks.length = last + 1) (hround : ∀ i (hi : i < last), st i = layer (st (i + 1) ^^^ ks[i + 1])) :
    keyedRounds layer ks.reverse (st last) = st 0 ^^^ ks[0] := by
  have hdown := keyedRounds_eq_of_sequence layer (ks := ks.reverse) (fun i => st (last - i)) (by simpa using hlen) fun i hi => by
    have := hround (last - (i + 1)) (by omega)
    simpa [hlen, show last - (i + 1) + 1 = last - i by omega] using this
  simpa [hlen] using hdown

end Sys2Proof.CipherProofs
end

section
/-! SUPPORT. The key schedules and the key loads, the commands ENCRYPT and DECRYPT round by round, the operand bits they do not read, and the
worked vectors (41_cipher.md R176 to R183, R190 to R193). -/

namespace Sys2Proof.CipherProofs

open Sys2Proof Sys2Proof.Machine Sys2Proof.Laws Sys2Proof.StateProofs

/-! ### The updates of KREG -/

theorem getLsbD_substNibble {w lo i : Nat} (k : BitVec w) (hi : i < w) :
    (substNibble lo k).getLsbD i =
      if lo ≤ i ∧ i < lo + 4 then (sbox (k.extractLsb' lo 4)).getLsbD (i - lo) else k.getLsbD i := by
  have hmask (j : Nat) (hj : j < w) : (BitVec.ofNat w 0xF).getLsbD j = decide (j < 4) := by
    rw [BitVec.getLsbD_ofNat, decide_eq_true hj, Bool.true_and]
    exact Nat.testBit_two_pow_sub_one 4 j
  simp only [substNibble, BitVec.getLsbD_or, BitVec.getLsbD_and, BitVec.getLsbD_not, BitVec.getLsbD_shiftLeft,
    BitVec.getLsbD_setWidth, hi, decide_true, Bool.true_and]
  obtain hlt | hge := Nat.lt_or_ge i lo
  · simp [hlt, show ¬lo ≤ i by omega]
  · rw [hmask _ (by omega)]
    obtain hin | hout := Nat.lt_or_ge i (lo + 4)
    · simp [hge, hin, show ¬i < lo by omega, show i - lo < 4 by omega, show i - lo < w by omega]
    · simp [show ¬i < lo + 4 by omega, show ¬i - lo < 4 by omega, BitVec.getLsbD_of_ge _ (i - lo) (show 4 ≤ i - lo by omega)]

/-- S on the top nibble, written with a concatenation. -/
theorem substNibble_top {n : Nat} (k : BitVec (4 + n)) : substNibble n k = sbox (k.extractLsb' n 4) ++ k.extractLsb' 0 n := by
  apply BitVec.eq_of_getLsbD_eq
  intro i hi
  rw [getLsbD_substNibble k hi, BitVec.getLsbD_append, BitVec.getLsbD_extractLsb']
  obtain hlt | hge := Nat.lt_or_ge i n
  · simp [hlt]
  · simp [hge, show ¬i < n by omega, show i < n + 4 by omega]

/-- S on the two top nibbles: the second substitution reads a nibble the first one left. -/
theorem substNibble_top_two {n : Nat} (k : BitVec (4 + 4 + n)) :
    substNibble n (substNibble (n + 4) k) = sbox (k.extractLsb' (n + 4) 4) ++ sbox (k.extractLsb' n 4) ++ k.extractLsb' 0 n := by
  have hlow : (substNibble (n + 4) k).extractLsb' n 4 = k.extractLsb' n 4 := by
    apply BitVec.eq_of_getLsbD_eq
    intro i hi
    simp [getLsbD_substNibble k (show n + i < 4 + 4 + n by omega), hi]
  apply BitVec.eq_of_getLsbD_eq
  intro i hi
  rw [getLsbD_substNibble _ hi, getLsbD_substNibble k hi, hlow, BitVec.getLsbD_append, BitVec.getLsbD_append,
    BitVec.getLsbD_extractLsb']
  obtain hlt | hge := Nat.lt_or_ge i n
  · simp [hlt, show ¬n ≤ i by omega, show ¬n + 4 ≤ i by omega]
  · obtain hlow | htop := Nat.lt_or_ge i (n + 4)
    · simp [hge, hlow, show ¬i < n by omega, show i - n < 4 by omega]
    · simp [htop, show ¬i < n by omega, show ¬i < n + 4 by omega, show i < n + 4 + 4 by omega, show ¬i - n < 4 by omega,
        show i - (n + 4) = i - n - 4 by omega]

theorem nextKregP80_eq (i : Nat) (k : BitVec 80) : nextKregP80 i k = updateP80 i k :=
  congrArg (addSalt 15 i) (substNibble_top (n := 76) (k.rotateLeft 61)).symm

theorem nextKregP128_eq (i : Nat) (k : BitVec 128) : nextKregP128 i k = updateP128 i k :=
  congrArg (addSalt 62 i) (substNibble_top_two (n := 120) (k.rotateLeft 61)).symm

theorem nextKregMini_eq (cfg : Config) (i : Nat) (k : Half) : nextKregMini cfg i k = updateMini cfg i k := by
  unfold nextKregMini updateMini
  refine congrArg (addSalt cfg.saltShift.val i) ?_
  cases cfg.ksNibbles with
  | one =>
    have hlow : (k.rotateLeft 7).extractLsb' 0 12 = (k.rotateLeft 7).extractLsb' 8 4 ++ (k.rotateLeft 7).extractLsb' 0 8 :=
      (BitVec.extractLsb'_append_extractLsb'_eq_extractLsb' (show 8 = 0 + 8 from rfl)).symm
    rw [substTopMini, substNibble_top (n := 12), hlow]
    exact BitVec.append_assoc ..
  | two => exact (substNibble_top_two (n := 8) (k.rotateLeft 7)).symm

/-! ### The key loads -/

/-- The first entries of a file that takes a schedule are extracted from the KREGs of the recurrence (R177, R181). -/
theorem fileWrite_scheduleFrom {w v n count : Nat} {extract : BitVec w → BitVec v} {update : Nat → BitVec w → BitVec w}
    (file : Vector (BitVec v) n) {kreg : Nat → BitVec w} (hstep : ∀ i, 1 ≤ i → kreg (i + 1) = update i (kreg i)) (i : Fin n)
    (hi : i.val < count) : (fileWrite file (scheduleFrom extract update count 1 (kreg 1)))[i] = extract (kreg (i.val + 1)) := by
  rw [Fin.getElem_fin, fileWrite_getElem _ _ _ i.isLt, dif_pos (by simpa using hi), scheduleFrom_getElem extract update _ _ _ hstep,
    Nat.add_comm]

/-- The entries above the schedule keep their values (10_state.md R55). -/
theorem fileWrite_above {w n : Nat} (file : Vector (BitVec w) n) {ks : List (BitVec w)} (i : Fin n) (hi : ks.length ≤ i.val) :
    (fileWrite file ks)[i] = file[i] := by
  rw [Fin.getElem_fin, fileWrite_getElem _ _ _ i.isLt, dif_neg (by omega), Fin.getElem_fin]

theorem exec_keyLoadPresent_badLength {klen rounds : Nat} {s : State} (hten : klen ≠ 10) (hsixteen : klen ≠ 16) :
    exec (.keyLoadPresent klen rounds) s = .next (failed .invalidKeyLength s) :=
  if_pos ⟨hten, hsixteen⟩

theorem exec_keyLoadPresent_badRounds {klen rounds : Nat} {s : State} (hlen : klen = 10 ∨ klen = 16) (hr : 32 < rounds) :
    exec (.keyLoadPresent klen rounds) s = .next (failed .invalidRounds s) :=
  (if_neg (by omega)).trans (if_pos hr)

theorem exec_keyLoadPresent_good {klen rounds : Nat} {s : State} (hlen : klen = 10 ∨ klen = 16) (hr : rounds ≤ 32) :
    exec (.keyLoadPresent klen rounds) s = .next (completed (installSchedule (presentVariant klen)
      (scheduleC Config.machine (presentVariant klen) s.cur.key (roundCount rounds 32)) s)) :=
  (if_neg (by omega)).trans (if_neg (Nat.not_lt.mpr hr))

theorem exec_keyLoadMini_badRounds {rounds : Nat} {s : State} (hr : 32 < rounds) :
    exec (.keyLoadMini rounds) s = .next (failed .invalidRounds s) :=
  if_pos hr

theorem exec_keyLoadMini_good {rounds : Nat} {s : State} (hr : rounds ≤ 32) :
    exec (.keyLoadMini rounds) s = .next (completed (installSchedule .mini
      (scheduleC Config.machine .mini s.cur.key (roundCount rounds 4)) s)) :=
  if_neg (Nat.not_lt.mpr hr)

theorem presentVariant_ne_noKey (klen : Nat) : presentVariant klen ≠ .noKey := by
  unfold presentVariant
  split <;> decide

theorem keyP80_eq (key : KeyWord) : keyP80 key = key.extractLsb' 0 80 := BitVec.setWidth_eq_extractLsb' (by decide)

theorem keyMini_eq (key : KeyWord) : keyMini key = key.extractLsb' 0 16 := BitVec.setWidth_eq_extractLsb' (by decide)

/-- Settles O31: the file takes the schedule of the key length's variant, whose update is the recurrence's. -/
theorem keyLoadPresentInstallsTheSchedule : Obligations.KeyLoadPresentInstallsTheSchedule := by
  intro klen rounds s
  refine ⟨exec_keyLoadPresent_badLength, exec_keyLoadPresent_badRounds, fun hlen hr => ?_⟩
  have hcount := scheduleC_length Config.machine (presentVariant klen) s.cur.key (roundCount rounds 32) (presentVariant_ne_noKey klen)
  refine ⟨roundCount rounds 32, fileWrite s.ksC (scheduleC Config.machine (presentVariant klen) s.cur.key (roundCount rounds 32)),
    rfl, ?exec, fun i hi => fileWrite_above _ i (hcount.trans_le hi), ?p80, ?p128⟩
  case exec =>
    rw [exec_keyLoadPresent_good hlen hr, installSchedule, hcount]
    rfl
  case p80 =>
    rintro rfl kreg hkey hstep i hi
    have hfile := fileWrite_scheduleFrom (extract := extractP80) s.ksC (fun j hj => (hstep j hj).trans (nextKregP80_eq j _)) i hi
    rwa [hkey, ← keyP80_eq] at hfile
  case p128 =>
    rintro rfl kreg hkey hstep i hi
    have hfile := fileWrite_scheduleFrom (extract := extractP128) s.ksC (fun j hj => (hstep j hj).trans (nextKregP128_eq j _)) i hi
    rwa [hkey] at hfile

/-- Settles O32: the file takes the Mini schedule, each entry zero-extended. -/
theorem keyLoadMiniInstallsTheSchedule : Obligations.KeyLoadMiniInstallsTheSchedule := by
  intro rounds s
  refine ⟨exec_keyLoadMini_badRounds, fun hr => ?_⟩
  have hcount := scheduleC_length Config.machine .mini s.cur.key (roundCount rounds 4) (by decide)
  refine ⟨roundCount rounds 4, fileWrite s.ksC (scheduleC Config.machine .mini s.cur.key (roundCount rounds 4)), rfl,
    ?exec, fun i hi => fileWrite_above _ i (hcount.trans_le hi), ?entries⟩
  case exec =>
    rw [exec_keyLoadMini_good hr, installSchedule, hcount]
    rfl
  case entries =>
    intro kreg hkey hstep i hi
    have hentry := scheduleFrom_getElem extractMini (updateMini Config.machine) (roundCount rounds 4) kreg 1
      (fun j hj => (hstep j hj).trans (nextKregMini_eq _ j _)) i.val (by simpa using hi)
    rw [Fin.getElem_fin, fileWrite_getElem _ _ _ i.isLt, dif_pos (hi.trans_eq hcount.symm)]
    simp only [scheduleC, miniSchedule, keyMini_eq, ← hkey, List.getElem_map, hentry, extractMini, Nat.add_comm i.val 1]
    exact BitVec.toNat_setWidth_of_le (by decide)

/-! ### ENCRYPT and DECRYPT round by round -/

theorem encBlock_of_ne_mini (cfg : Config) {v : Variant} (hv : v ≠ .mini) (ks : List Block) (x : Block) :
    encBlock cfg v ks x = enc64 ks x := by
  cases v with
  | mini => exact absurd rfl hv
  | noKey | p80 | p128 => rfl

theorem encBlock_of_mini (cfg : Config) {v : Variant} (hv : v = .mini) (ks : List Block) (x : Block) :
    encBlock cfg v ks x = (encMini cfg (miniKeys ks) (miniPort x)).setWidth 64 := by
  subst hv
  rfl

theorem decBlock_of_mini (cfg : Config) {v : Variant} (hv : v = .mini) (ks : List Block) (x : Block) :
    decBlock cfg v ks x = (decMini cfg (miniKeys ks) (miniPort x)).setWidth 64 := by
  subst hv
  rfl

theorem decBlock_of_ne_mini (cfg : Config) {v : Variant} (hv : v ≠ .mini) (ks : List Block) (x : Block) :
    decBlock cfg v ks x = dec64 ks x := by
  cases v with
  | mini => exact absurd rfl hv
  | noKey | p80 | p128 => rfl

theorem validSchedule_length {s : State} (hmax : s.ksCR.toNat ≤ 32) : (validSchedule s).length = s.ksCR.toNat := by
  simpa [validSchedule] using hmax

theorem validSchedule_getElem {s : State} {i : Nat} (hi : i < (validSchedule s).length) :
    (validSchedule s)[i] = s.ksC[i]'(by simp [validSchedule] at hi; omega) := by
  simp [validSchedule]

theorem miniPort_eq (x : Block) : miniPort x = x.extractLsb' 0 8 := BitVec.setWidth_eq_extractLsb' (by decide)

theorem miniKeys_getElem {ks : List Block} {i : Nat} (hi : i < (miniKeys ks).length) :
    (miniKeys ks)[i] = (ks[i]'(by simpa [miniKeys] using hi)).extractLsb' 0 8 := by
  simpa [miniKeys] using BitVec.setWidth_eq_extractLsb' (by decide)

/-- A Mini block in DOUT: DOUT1 is 0 and DOUT0 holds the byte (R192). -/
theorem writeDout_setWidth (b : Byte) (s : State) :
    writeDout (b.setWidth 64) s = { s with dout1 := 0#32, dout0 := b.setWidth 32 } := by
  have hhigh : (b.setWidth 64).extractLsb' 32 32 = 0#32 := by
    ext i hi
    simp [BitVec.getLsbD_setWidth, BitVec.getLsbD_of_ge b (32 + i) (by omega)]
  have hlow : (b.setWidth 64).extractLsb' 0 32 = b.setWidth 32 := by
    rw [← BitVec.setWidth_eq_extractLsb' (by decide), BitVec.setWidth_setWidth_of_le _ (by decide)]
  rw [writeDout, hhigh, hlow]

/-- Settles O33: ENC's rounds along the sequence, over the schedule in use or its bytes. -/
theorem encryptRunsTheRounds : Obligations.EncryptRunsTheRounds := by
  intro s
  refine ⟨exec_encrypt_unloaded, fun hloaded hmax hvar st hstart hround last hlast => ?_,
    fun hloaded hmax hvar st hstart hround last hlast => ?_⟩
  · have hlen : (validSchedule s).length = last.val + 1 := (validSchedule_length hmax).trans hlast.symm
    have hrounds := keyedRounds_eq_of_sequence roundLayer64 st hlen fun i hi => by
      rw [validSchedule_getElem]
      exact hround ⟨i, by omega⟩ (by simp; omega)
    rw [exec_encrypt_loaded hloaded, encBlock_of_ne_mini _ hvar, enc64, ← hstart, hrounds, validSchedule_getElem]
    rfl
  · have hlen : (miniKeys (validSchedule s)).length = last.val + 1 := by
      simpa [miniKeys] using (validSchedule_length hmax).trans hlast.symm
    have hrounds := keyedRounds_eq_of_sequence (roundLayer8 Config.machine) st hlen fun i hi => by
      rw [miniKeys_getElem, validSchedule_getElem]
      exact hround ⟨i, by omega⟩ (by simp; omega)
    rw [exec_encrypt_loaded hloaded, encBlock_of_mini _ hvar, encMini, miniPort_eq, ← hstart, hrounds, writeDout_setWidth, miniKeys_getElem,
      validSchedule_getElem]
    rfl

/-- Settles O34: DEC's rounds along the sequence downwards. -/
theorem decryptRunsTheInverseRounds : Obligations.DecryptRunsTheInverseRounds := by
  intro s
  have hcount (hloaded : s.ksCR ≠ 0#8) : s.ksCR.toNat - 1 + 1 = s.ksCR.toNat := by bv_omega
  refine ⟨exec_decrypt_unloaded, fun hloaded hmax hvar st hstart hround => ?_, fun hloaded hmax hvar st hstart hround => ?_⟩
  · have hlen : (validSchedule s).length = s.ksCR.toNat - 1 + 1 := (validSchedule_length hmax).trans (hcount hloaded).symm
    have hrounds := keyedRounds_reverse_eq_of_sequence roundLayerInv64 st hlen fun i hi => by
      rw [validSchedule_getElem]
      exact hround ⟨i + 1, by omega⟩ (by simp) (by simp; omega)
    rw [exec_decrypt_loaded hloaded, decBlock_of_ne_mini _ hvar, dec64, ← hstart, hrounds, validSchedule_getElem]
    rfl
  · have hlen : (miniKeys (validSchedule s)).length = s.ksCR.toNat - 1 + 1 := by
      simpa [miniKeys] using (validSchedule_length hmax).trans (hcount hloaded).symm
    have hrounds := keyedRounds_reverse_eq_of_sequence (roundLayerInv8 Config.machine) st hlen fun i hi => by
      rw [miniKeys_getElem, validSchedule_getElem]
      exact hround ⟨i + 1, by omega⟩ (by simp) (by simp; omega)
    rw [exec_decrypt_loaded hloaded, decBlock_of_mini _ hvar, decMini, miniPort_eq, ← hstart, hrounds, writeDout_setWidth, miniKeys_getElem,
      validSchedule_getElem]
    rfl

/-! ### Operand bits that are not read -/

/-- KS_C after KEY_LOAD_MINI, whether it succeeds or not (R191). -/
theorem cipherContext_keyLoadMini {rounds : Nat} {s t : State} (h : exec (.keyLoadMini rounds) s = .next t) :
    cipherContext t = if rounds ≤ 32 then cipherContext (installSchedule .mini
      (scheduleC Config.machine .mini s.cur.key (roundCount rounds 4)) s) else cipherContext s := by
  split
  · next hr =>
    obtain rfl := Host.Outcome.next.inj ((exec_keyLoadMini_good hr).symm.trans h)
    rfl
  · next hr =>
    obtain rfl := Host.Outcome.next.inj ((exec_keyLoadMini_badRounds (Nat.not_le.mp hr)).symm.trans h)
    rfl

/-- KS_C after KEY_LOAD_PRESENT of 10 bytes, whether it succeeds or not (R190). -/
theorem cipherContext_keyLoadP80 {rounds : Nat} {s t : State} (h : exec (.keyLoadPresent 10 rounds) s = .next t) :
    cipherContext t = if rounds ≤ 32 then cipherContext (installSchedule .p80
      (scheduleC Config.machine .p80 s.cur.key (roundCount rounds 32)) s) else cipherContext s := by
  split
  · next hr =>
    obtain rfl := Host.Outcome.next.inj ((exec_keyLoadPresent_good (.inl rfl) hr).symm.trans h)
    rfl
  · next hr =>
    obtain rfl := Host.Outcome.next.inj ((exec_keyLoadPresent_badRounds (.inl rfl) (Nat.not_le.mp hr)).symm.trans h)
    rfl

/-- Settles O40: each command reads its operand through the slice of its rule, and the two operands agree there. -/
theorem unreadOperandBitsAreIgnored : Obligations.UnreadOperandBitsAreIgnored := by
  intro s t u key din
  refine ⟨fun hkey => ⟨fun rounds ht hu => ?mini, fun ht hu => ?mac⟩, fun hkey rounds ht hu => ?p80, fun hdin hvar => ?block⟩
  case mini =>
    rw [cipherContext_keyLoadMini hu, cipherContext_keyLoadMini ht]
    simp only [scheduleC, keyMini_eq, hkey]
    rfl
  case mac =>
    rw [execMacInit_cases hu, execMacInit_cases ht]
    simp only [macInitSchedule, keyMini_eq, hkey]
    rfl
  case p80 =>
    rw [cipherContext_keyLoadP80 hu, cipherContext_keyLoadP80 ht]
    simp only [scheduleC, keyP80_eq, hkey]
    rfl
  case block =>
    have hport : miniPort din = miniPort s.cur.din := by rw [miniPort_eq, miniPort_eq, hdin]
    constructor
    · intro ht hu
      rw [doutOf_encrypt hu, doutOf_encrypt ht, encBlock_of_mini _ hvar, encBlock_of_mini _ hvar, hport]
      rfl
    · intro ht hu
      rw [doutOf_decrypt hu, doutOf_decrypt ht, decBlock_of_mini _ hvar, decBlock_of_mini _ hvar, hport]
      rfl

/-- Settles O45: the vectors are evaluated. -/
theorem cipherVectorsAgree : Obligations.CipherVectorsAgree := by
  unfold Obligations.CipherVectorsAgree
  decide +kernel

end Sys2Proof.CipherProofs
end

section
/-! SUPPORT. The units of the reference datapath, counted down to their results: the key schedule (41_cipher.md R182), the encryption and
decryption FSMs (R184, R186) and the multiplier (40_gf_multiplier.md R133 to R135). -/

namespace Sys2Proof.CipherProofs

open Sys2Proof Sys2Proof.Machine Sys2Proof.Laws Sys2Proof.StateProofs Sys2Proof.GfProofs

/-! ### Cycles of a command in flight -/

/-- From w, n cycles lead the units to a state that meets `post`, and no sooner does a result stand. -/
structure Reaches (cfg : Config) (s : State) (n : Nat) (w : Working) (post : Working → Prop) : Prop where
  after : post (runCycles cfg s n w)
  notBefore : ∀ k < n, (runCycles cfg s k w).fsm ≠ .done

/-- A command is in flight that raises no error. -/
structure InFlight (i : Instr) (s : State) : Prop where
  decoded : decode s.cur.word = some i
  noError : errorOf i s = .ok

section InFlight

variable {cfg : Config} {i : Instr} {s : State}

theorem InFlight.referenceLatency (hf : InFlight i s) : referenceLatency cfg s = commandLatency cfg i s := by
  simp only [Machine.referenceLatency, hf.decoded, hf.noError, if_true]

theorem InFlight.workCycle (hf : InFlight i s) {w : Working} (hrun : w.fsm ≠ .done) : workCycle cfg s w = commandCycle cfg i s w := by
  simp only [Machine.workCycle, if_neg hrun, hf.decoded, hf.noError, if_true]

theorem Reaches.zero {w : Working} {post : Working → Prop} (h : post w) : Reaches cfg s 0 w post := ⟨h, by simp⟩

/-- One cycle of the command, and then the rest. -/
theorem InFlight.cycle (hf : InFlight i s) {n : Nat} {w : Working} {post : Working → Prop} (hrun : w.fsm ≠ .done)
    (h : Reaches cfg s n (commandCycle cfg i s w) post) : Reaches cfg s (n + 1) w post := by
  rw [← hf.workCycle hrun] at h
  refine ⟨h.after, fun k hk => ?_⟩
  cases k with
  | zero => exact hrun
  | succ k => exact h.notBefore k (by omega)

theorem InFlight.lastCycle (hf : InFlight i s) {w : Working} {post : Working → Prop} (hrun : w.fsm ≠ .done)
    (h : post (commandCycle cfg i s w)) : Reaches cfg s 1 w post :=
  hf.cycle hrun (.zero h)

/-- Two runs of the units in sequence. -/
theorem Reaches.trans {m n : Nat} {w : Working} {mid post : Working → Prop} (h : Reaches cfg s m w mid)
    (hrest : ∀ w', mid w' → Reaches cfg s n w' post) : Reaches cfg s (m + n) w post := by
  induction m generalizing w with
  | zero =>
    rw [Nat.zero_add]
    exact hrest w h.after
  | succ m ih =>
    have htail : Reaches cfg s (m + n) (Machine.workCycle cfg s w) post :=
      ih ⟨h.after, fun k hk => h.notBefore (k + 1) (by omega)⟩
    rw [Nat.succ_add]
    refine ⟨htail.after, fun k hk => ?_⟩
    cases k with
    | zero => exact h.notBefore 0 (by omega)
    | succ k => exact htail.notBefore k (by omega)

/-- A count of the cycles left that each cycle of the command lowers by one comes to 0. -/
theorem InFlight.countdown (hf : InFlight i s) {P : Nat → Working → Prop}
    (hcycle : ∀ n w, P (n + 1) w → w.fsm ≠ .done ∧ P n (commandCycle cfg i s w)) {n : Nat} {w : Working} (h : P n w) :
    Reaches cfg s n w (P 0) := by
  induction n generalizing w with
  | zero => exact .zero h
  | succ n ih =>
    obtain ⟨hrun, hnext⟩ := hcycle n w h
    exact hf.cycle hrun (ih hnext)

end InFlight

/-! ### The key schedule -/

section KeySchedule

variable {extract : KeyWord → Block} {update : Nat → KeyWord → KeyWord} {next : Fsm} {keys : List Block} {w : Working}

/-- The key-schedule datapath with n rounds left to the schedule `keys`: the rest of it comes from the KREG in hand (R182). -/
def KeyRoundsLeft (extract : KeyWord → Block) (update : Nat → KeyWord → KeyWord) (next : Fsm) (keys : List Block) :
    Nat → Working → Prop
  | 0, w => w.fsm = next ∧ w.shadow = keys
  | n + 1, w =>
    w.fsm = .keyRounds ∧ w.rc.toNat + n = keys.length ∧ w.shadow ++ scheduleFrom extract update (n + 1) w.rc.toNat w.kreg = keys

/-- The first cycle loads KREG. -/
theorem keyCycle_ready (key : KeyWord) {rounds : Nat} (hpos : 0 < rounds) (hready : w.fsm = .ready) :
    KeyRoundsLeft extract update next (scheduleFrom extract update rounds 1 key) rounds
      (keyCycle extract update key rounds next w) := by
  obtain ⟨n, rfl⟩ := Nat.exists_eq_succ_of_ne_zero hpos.ne'
  simp [keyCycle, hready, KeyRoundsLeft, Nat.add_comm]

/-- A round moves the first entry of the rest into the shadow file. -/
theorem keyCycle_round (key : KeyWord) {n : Nat} (hmax : keys.length < 256) (h : KeyRoundsLeft extract update next keys (n + 1) w) :
    KeyRoundsLeft extract update next keys n (keyCycle extract update key keys.length next w) := by
  obtain ⟨hfsm, hrc, hkeys⟩ := h
  simp only [scheduleFrom] at hkeys
  cases n with
  | zero =>
    simp only [keyCycle, hfsm, KeyRoundsLeft, if_neg (show ¬w.rc.toNat < keys.length by omega), true_and]
    exact hkeys
  | succ n =>
    have hnext : (w.rc + 1).toNat = w.rc.toNat + 1 := by
      rw [BitVec.toNat_add, Nat.mod_eq_of_lt (by simp; omega)]
      rfl
    simp only [keyCycle, hfsm, KeyRoundsLeft, if_pos (show w.rc.toNat < keys.length by omega), true_and, hnext]
    refine ⟨by omega, ?_⟩
    rw [List.append_assoc]
    exact hkeys

end KeySchedule

/-- A schedule computed in a wider register is the schedule, entry by entry. -/
theorem scheduleFrom_map {w w' v v' : Nat} {extract : BitVec w → BitVec v} {update : Nat → BitVec w → BitVec w}
    {extract' : BitVec w' → BitVec v'} {update' : Nat → BitVec w' → BitVec w'} (embed : BitVec w → BitVec w')
    (entry : BitVec v → BitVec v') (hextract : ∀ k, extract' (embed k) = entry (extract k))
    (hupdate : ∀ i k, update' i (embed k) = embed (update i k)) (n i : Nat) (k : BitVec w) :
    scheduleFrom extract' update' n i (embed k) = (scheduleFrom extract update n i k).map entry := by
  induction n generalizing i k with
  | zero => rfl
  | succ n ih => simp only [scheduleFrom, List.map_cons, hextract, hupdate, ih]

/-! ### The rounds of a block -/

section BlockRounds

variable {layer : Block → Block} {keys ks : List Block} {rc : Nat → Nat} {result x : Block} {n : Nat} {w w' : Working}

/-- The rounds that are left from ST, before the last key mixing. -/
theorem keyedRounds_drop (layer : Block → Block) (hn : n + 1 < keys.length) (st : Block) :
    keyedRounds layer (keys.drop (keys.length - (n + 2))) st =
      keyedRounds layer (keys.drop (keys.length - (n + 1))) (layer (st ^^^ keys[keys.length - (n + 2)])) := by
  rw [List.drop_eq_getElem_cons (by omega), show keys.length - (n + 2) + 1 = keys.length - (n + 1) by omega]
  exact keyedRounds_cons layer _ (by simp; omega) st

theorem keyedRounds_drop_last (layer : Block → Block) (hpos : 0 < keys.length) (st : Block) :
    keyedRounds layer (keys.drop (keys.length - 1)) st = st ^^^ keys[keys.length - 1] := by
  rw [List.drop_eq_getElem_cons (by omega), Nat.sub_add_cancel hpos, List.drop_length]
  rfl

/-- An encryption or decryption FSM with n rounds left before Final, over the keys in the order of their use: the rest of the rounds
takes ST to the result, and RC stands where the FSM counts (R184, R186). -/
structure BlockRoundsLeft (layer : Block → Block) (keys : List Block) (rc : Nat → Nat) (result : Block) (n : Nat) (w : Working) :
    Prop where
  inFile : n < keys.length
  fsm : w.fsm = if n = 0 then .blockFinal else .blockRound
  counter : w.rc.toNat = rc n
  rest : keyedRounds layer (keys.drop (keys.length - (n + 1))) w.st = result

theorem BlockRoundsLeft.running (h : BlockRoundsLeft layer keys rc result n w) : w.fsm ≠ .done := by
  rw [h.fsm]
  split <;> decide

/-- A round's cycle, whichever FSM makes it: the layers of ST mixed with the key in turn, and RC one further. -/
theorem BlockRoundsLeft.round (h : BlockRoundsLeft layer keys rc result (n + 1) w) (hcount : w'.rc.toNat = rc n)
    (hfsm : w'.fsm = if n = 0 then .blockFinal else .blockRound)
    (hst : w'.st = layer (w.st ^^^ keys.getD (keys.length - (n + 2)) 0#64)) : BlockRoundsLeft layer keys rc result n w' := by
  have hn := h.inFile
  refine ⟨by omega, hfsm, hcount, ?_⟩
  rw [← h.rest, keyedRounds_drop layer hn, hst, List.getD_eq_getElem _ _ (by omega)]

theorem BlockRoundsLeft.final (h : BlockRoundsLeft layer keys rc result 0 w) :
    w.st ^^^ keys.getD (keys.length - 1) 0#64 = result := by
  have hpos := h.inFile
  rw [← h.rest, keyedRounds_drop_last layer hpos, List.getD_eq_getElem _ _ (by omega)]

/-- The encryption FSM counts RC up to R. -/
abbrev EncRoundsLeft (layer : Block → Block) (ks : List Block) (result : Block) : Nat → Working → Prop :=
  BlockRoundsLeft layer ks (fun n => ks.length - n) result

/-- The decryption FSM uses the keys in reverse order and counts RC down to 1. -/
abbrev DecRoundsLeft (layer : Block → Block) (ks : List Block) (result : Block) : Nat → Working → Prop :=
  BlockRoundsLeft layer ks.reverse (fun n => n + 1) result

theorem encCycle_init (hpos : 0 < ks.length) (hinit : w.fsm = .ready ∨ w.fsm = .blockInit) :
    EncRoundsLeft layer ks (keyedRounds layer ks x) (ks.length - 1) (encCycle layer ks x w) := by
  have hcycle : encCycle layer ks x w =
      { w with st := x, rc := 1, fsm := if 2 ≤ ks.length then .blockRound else .blockFinal } := by
    obtain h | h := hinit <;> simp only [encCycle, h]
  rw [hcycle]
  refine ⟨by omega, ?_, ?_, ?_⟩
  · by_cases htwo : 2 ≤ ks.length
    · simp [htwo, show ks.length - 1 ≠ 0 by omega]
    · simp [htwo, show ks.length - 1 = 0 by omega]
  · simp; omega
  · simp [Nat.sub_add_cancel hpos]

theorem encCycle_round (hmax : ks.length < 256) (h : EncRoundsLeft layer ks result (n + 1) w) :
    EncRoundsLeft layer ks result n (encCycle layer ks x w) := by
  have hn := h.inFile
  have hrc : w.rc.toNat = ks.length - (n + 1) := h.counter
  have hfsm : w.fsm = .blockRound := h.fsm
  refine h.round ?_ ?_ ?_ <;> simp only [encCycle, hfsm]
  · rw [BitVec.toNat_add, hrc, Nat.mod_eq_of_lt (by simp; omega)]
    simp; omega
  · rw [hrc]
    by_cases hzero : n = 0
    · simp [hzero]
    · simp [hzero]; omega
  · rw [roundKey, hrc]
    rfl

theorem encCycle_final (h : EncRoundsLeft layer ks result 0 w) : encCycle layer ks x w = { w with staged := result, fsm := .done } := by
  have hfsm : w.fsm = .blockFinal := h.fsm
  simp only [encCycle, hfsm, roundKey, h.final]

/-- Until Final, a cycle of the encryption FSM leaves the staged value. -/
theorem encCycle_staged (hfinal : w.fsm ≠ .blockFinal) : (encCycle layer ks x w).staged = w.staged := by
  cases hfsm : w.fsm with
  | blockFinal => exact absurd hfsm hfinal
  | ready | keyRounds | blockInit | blockRound | multiply | done => simp only [encCycle, hfsm]

@[simp] theorem encCycle_shadow : (encCycle layer ks x w).shadow = w.shadow := by
  unfold encCycle
  split <;> rfl

@[simp] theorem encCycle_gctrIdx : (encCycle layer ks x w).gctrIdx = w.gctrIdx := by
  unfold encCycle
  split <;> rfl

theorem decCycle_ready (hpos : 0 < ks.length) (hmax : ks.length < 256) (hready : w.fsm = .ready) :
    DecRoundsLeft layer ks (keyedRounds layer ks.reverse x) (ks.length - 1) (decCycle layer ks x w) := by
  simp only [decCycle, hready]
  refine ⟨by simp; omega, ?_, ?_, ?_⟩
  · by_cases htwo : 2 ≤ ks.length
    · simp [htwo, show ks.length - 1 ≠ 0 by omega]
    · simp [htwo, show ks.length - 1 = 0 by omega]
  · rw [toNat_ofNat_of_lt hmax, Nat.sub_add_cancel hpos]
  · simp [Nat.sub_add_cancel hpos]

/-- The n-th key from the end of the reversed schedule is K_n. -/
theorem getD_reverse (hn : n < ks.length) : ks.reverse.getD (ks.reverse.length - (n + 1)) 0#64 = roundKey ks (n + 1) := by
  rw [List.length_reverse, List.getD_eq_getElem _ _ (by simp; omega), List.getElem_reverse, roundKey, Nat.add_sub_cancel,
    List.getD_eq_getElem _ _ hn]
  congr 1
  omega

theorem decCycle_round (h : DecRoundsLeft layer ks result (n + 1) w) : DecRoundsLeft layer ks result n (decCycle layer ks x w) := by
  have hn : n + 1 < ks.length := by simpa using h.inFile
  have hrc : w.rc.toNat = n + 2 := h.counter
  have hfsm : w.fsm = .blockRound := h.fsm
  refine h.round ?_ ?_ ?_ <;> simp only [decCycle, hfsm]
  · have hw := w.rc.isLt
    rw [BitVec.toNat_sub, hrc]
    simp; omega
  · rw [hrc]
    by_cases hzero : n = 0
    · simp [hzero]
    · simp [hzero]
  · rw [getD_reverse hn, hrc]

theorem decCycle_final (h : DecRoundsLeft layer ks result 0 w) : decCycle layer ks x w = { w with staged := result, fsm := .done } := by
  have hpos : 0 < ks.length := by simpa using h.inFile
  have hfsm : w.fsm = .blockFinal := h.fsm
  simp only [decCycle, hfsm, ← h.final, ← getD_reverse hpos]

end BlockRounds

end Sys2Proof.CipherProofs
end

section
/-! SUPPORT. The multiplier in the reference datapath, in each of its three forms (40_gf_multiplier.md R133 to R135). -/

namespace Sys2Proof.CipherProofs

open Sys2Proof Sys2Proof.Machine Sys2Proof.Laws Sys2Proof.StateProofs Sys2Proof.GfProofs

theorem bitLen_shiftRight_one (v : Nat) : bitLen (v >>> 1) = bitLen v - 1 := by
  obtain hlt | hge := Nat.lt_or_ge v 2
  · interval_cases v <;> rfl
  · rw [Nat.shiftRight_one, bitLen, bitLen, if_neg (by omega), if_neg (by omega), Nat.log2_def v, if_pos hge]
    rfl

theorem bitLen_eq_zero_iff (v : Nat) : bitLen v = 0 ↔ v = 0 := by
  unfold bitLen
  split <;> simp_all

theorem bitLen_le_of_lt {v n : Nat} (h : v < 2 ^ n) : bitLen v ≤ n := by
  unfold bitLen
  split
  · omega
  · next hne => exact (Nat.log2_lt hne).mpr h

section Multiplier

variable {cfg : Config} {i : Instr} {s : State} {a b : GfWord} {w : Working}

/-- The pipeline with n stages left (R134). -/
def PipeCyclesLeft (cfg : Config) (product : Block) : Nat → Working → Prop
  | 0, w => w.fsm = .done ∧ w.staged = product
  | n + 1, w => w.fsm = .multiply ∧ w.pipe.length + (n + 1) = cfg.gfPipeStages

/-- The product in the width of the staged value. -/
abbrev stagedProduct (s : State) (a b : GfWord) : Block :=
  BitVec.ofNat 64 (gfMulComb a.toNat b.toNat s.fieldDeg.toNat s.fieldPoly.toNat)

theorem pipeCycle_left (n : Nat) (held : List GfWord) (hheld : (if w.fsm = .ready then [] else w.pipe) = held)
    (hlen : held.length + (n + 1) = cfg.gfPipeStages) : PipeCyclesLeft cfg (stagedProduct s a b) n (pipeCycle cfg s a b w) := by
  simp only [pipeCycle, hheld, List.length_cons]
  cases n with
  | zero => rw [if_neg (by omega)]; exact ⟨rfl, rfl⟩
  | succ n => rw [if_pos (by omega)]; exact ⟨rfl, by simp; omega⟩

/-- The iterative multiplier with n iterations left: bitlen(GP2) of them, and they take the registers to the product (R135). -/
def IterCyclesLeft (m p : Nat) (product : GfWord) : Nat → Working → Prop
  | 0, w => w.fsm = .done ∧ w.staged = product.setWidth 64
  | n + 1, w => w.fsm = .multiply ∧ bitLen w.gp2.toNat = n + 1 ∧
    ∃ passes, n + 1 ≤ passes ∧ iterResult m (iterRun m p passes (w.gp1, w.gp2, w.gacc)) = product

theorem iterRun_of_zero (m p passes : Nat) {r : BitVec 17 × GfWord × GfWord} (hzero : r.2.1 = 0#16) : iterRun m p passes r = r := by
  cases passes with
  | zero => rfl
  | succ passes => exact if_pos hzero

/-- A cycle's end, with the registers r after its iteration: done when GP2 has run out, another iteration otherwise. -/
theorem iterDatapathCycle_left {r r' : BitVec 17 × GfWord × GfWord} {n passes : Nat} {product : GfWord}
    (hstart : (if w.fsm = .ready then iterStart a b s.fieldDeg.toNat else (w.gp1, w.gp2, w.gacc)) = r)
    (hiter : (if r.2.1 = 0#16 then r else iterCycle s.fieldDeg.toNat s.fieldPoly.toNat r) = r') (hleft : bitLen r'.2.1.toNat = n)
    (hpasses : n ≤ passes)
    (hresult : iterResult s.fieldDeg.toNat (iterRun s.fieldDeg.toNat s.fieldPoly.toNat passes r') = product) :
    IterCyclesLeft s.fieldDeg.toNat s.fieldPoly.toNat product n (iterDatapathCycle s a b w) := by
  have hzero : r'.2.1 = 0#16 ↔ n = 0 := by rw [← hleft, bitLen_eq_zero_iff, ← BitVec.toNat_inj]; rfl
  simp only [iterDatapathCycle, hstart, hiter]
  cases n with
  | zero =>
    rw [if_pos (hzero.mpr rfl)]
    rw [iterRun_of_zero _ _ _ (hzero.mpr rfl)] at hresult
    exact ⟨rfl, by rw [← hresult]⟩
  | succ n =>
    rw [if_neg (by simp [hzero])]
    exact ⟨rfl, hleft, passes, hpasses, hresult⟩

/-- An iteration brings GP2 one bit nearer to its end, and the passes left by one. -/
theorem iterCycle_left (m p passes : Nat) {r : BitVec 17 × GfWord × GfWord} (hne : r.2.1 ≠ 0#16) :
    bitLen (iterCycle m p r).2.1.toNat = bitLen r.2.1.toNat - 1 ∧ iterRun m p (passes + 1) r = iterRun m p passes (iterCycle m p r) :=
  ⟨by rw [toNat_iterCycle_gp2, bitLen_shiftRight_one], if_neg hne⟩

theorem iterDatapathCycle_first {product : GfWord} (hready : w.fsm = .ready)
    (hproduct : gfMulIter a b s.fieldDeg.toNat s.fieldPoly.toNat = product) :
    IterCyclesLeft s.fieldDeg.toNat s.fieldPoly.toNat product (bitLen b.toNat - 1) (iterDatapathCycle s a b w) := by
  by_cases hzero : b = 0#16
  · subst hzero
    exact iterDatapathCycle_left (if_pos hready) (if_pos rfl) rfl (Nat.zero_le 16) hproduct
  · obtain ⟨hleft, hpass⟩ := iterCycle_left s.fieldDeg.toNat s.fieldPoly.toNat 15 (r := iterStart a b s.fieldDeg.toNat) hzero
    have hbits : bitLen b.toNat ≤ 16 := bitLen_le_of_lt b.isLt
    exact iterDatapathCycle_left (if_pos hready) (if_neg hzero) hleft (passes := 15) (by omega) (hpass ▸ hproduct)

theorem iterDatapathCycle_next {product : GfWord} {n : Nat}
    (h : IterCyclesLeft s.fieldDeg.toNat s.fieldPoly.toNat product (n + 1) w) :
    w.fsm ≠ .done ∧ IterCyclesLeft s.fieldDeg.toNat s.fieldPoly.toNat product n (iterDatapathCycle s a b w) := by
  obtain ⟨hfsm, hleft, passes, hpasses, hresult⟩ := h
  obtain ⟨passes, rfl⟩ := Nat.exists_eq_add_one_of_ne_zero (by omega : passes ≠ 0)
  have hne : w.gp2 ≠ 0#16 := by
    intro hzero
    rw [hzero] at hleft
    exact absurd hleft (by simp [bitLen])
  obtain ⟨hnext, hpass⟩ := iterCycle_left s.fieldDeg.toNat s.fieldPoly.toNat passes (r := (w.gp1, w.gp2, w.gacc)) hne
  have hdown : bitLen (iterCycle s.fieldDeg.toNat s.fieldPoly.toNat (w.gp1, w.gp2, w.gacc)).2.1.toNat = n := by
    rw [hnext, hleft, Nat.add_sub_cancel]
  exact ⟨by rw [hfsm]; decide,
    iterDatapathCycle_left (if_neg (by rw [hfsm]; decide)) (if_neg hne) hdown (by omega : n ≤ passes) (hpass ▸ hresult)⟩

/-- After the reference latency a multiplication has staged the product, whichever form the multiplier has. -/
theorem mulCycle_reaches (hf : InFlight i s) (hcycle : ∀ w, commandCycle cfg i s w = mulCycle cfg s a b w) (hready : w.fsm = .ready)
    (hvalid : s.fieldValid = true) (hfield : FieldContextOk s) :
    Reaches cfg s (gfLatency cfg b) w fun w' => w'.fsm = .done ∧ w'.staged = (gfmProduct s a b).setWidth 64 := by
  have hrunning : w.fsm ≠ .done := by rw [hready]; decide
  have hproduct := toNat_gfmProduct hvalid hfield a b
  simp only [FieldContextOk, hvalid, if_true] at hfield
  obtain ⟨hm, hmax, -⟩ := hfield
  have hstaged : stagedProduct s a b = (gfmProduct s a b).setWidth 64 := by
    apply BitVec.eq_of_toNat_eq
    rw [stagedProduct, gfMulComb_ports a b hm hmax, ← hproduct, BitVec.toNat_setWidth, BitVec.toNat_ofNat]
  have hiterative : gfMulIter a b s.fieldDeg.toNat s.fieldPoly.toNat = gfmProduct s a b :=
    BitVec.eq_of_toNat_eq ((iterativeDatapathEqualsGfMul a b _ _ hm hmax).trans hproduct.symm)
  cases himpl : cfg.multImpl with
  | comb =>
    rw [gfLatency, himpl]
    refine hf.lastCycle hrunning ?_
    rw [hcycle, mulCycle, himpl]
    exact ⟨rfl, hstaged⟩
  | pipe =>
    rw [gfLatency, himpl, ← hstaged]
    refine hf.cycle hrunning (hf.countdown (P := PipeCyclesLeft cfg (stagedProduct s a b)) (fun n w h => ?_) ?_)
    · obtain ⟨hfsm, hlen⟩ := h
      rw [hcycle, mulCycle, himpl]
      exact ⟨by rw [hfsm]; decide, pipeCycle_left n w.pipe (if_neg (by rw [hfsm]; decide)) hlen⟩
    · rw [hcycle, mulCycle, himpl]
      exact pipeCycle_left _ [] (if_pos hready) (by simp [Config.gfPipeStages])
  | iter =>
    have hlatency : gfLatency cfg b = bitLen b.toNat - 1 + 1 := by
      rw [gfLatency, himpl]
      exact (Nat.max_comm _ _).trans (Nat.sub_add_eq_max _ _).symm
    rw [hlatency]
    refine hf.cycle hrunning
      (hf.countdown (P := IterCyclesLeft s.fieldDeg.toNat s.fieldPoly.toNat (gfmProduct s a b)) (fun n w h => ?_) ?_)
    · rw [hcycle, mulCycle, himpl]
      exact iterDatapathCycle_next h
    · rw [hcycle, mulCycle, himpl]
      exact iterDatapathCycle_first hready hiterative

end Multiplier

end Sys2Proof.CipherProofs
end

section
/-! SUPPORT. What the reference datapath has staged for each command after the reference number of cycles is what the completion writes
(41_cipher.md R182, R184, R186; 40_gf_multiplier.md R141; 42_mac.md R240 to R242). -/

namespace Sys2Proof.CipherProofs

open Sys2Proof Sys2Proof.Machine Sys2Proof.Laws Sys2Proof.StateProofs Sys2Proof.GfProofs

/-! ### Mini in the width of the round engine -/

/-- Rounds computed in a wider register are the rounds. -/
theorem keyedRounds_map {w w' : Nat} {layer : BitVec w → BitVec w} {layer' : BitVec w' → BitVec w'} (embed : BitVec w → BitVec w')
    (hxor : ∀ x y, embed x ^^^ embed y = embed (x ^^^ y)) (hlayer : ∀ x, layer' (embed x) = embed (layer x)) (ks : List (BitVec w))
    (x : BitVec w) : keyedRounds layer' (ks.map embed) (embed x) = embed (keyedRounds layer ks x) := by
  induction ks generalizing x with
  | nil => rfl
  | cons k rest ih =>
    obtain rfl | hrest := eq_or_ne rest []
    · exact hxor x k
    · rw [List.map_cons, keyedRounds_cons _ _ (by simpa using hrest), keyedRounds_cons _ _ hrest, hxor, hlayer, ih]

theorem keyedRounds_miniLayer (cfg : Config) (ks : List Byte) (x : Byte) :
    keyedRounds (miniLayer cfg) (ks.map (·.setWidth 64)) (x.setWidth 64) = (encMini cfg ks x).setWidth 64 :=
  keyedRounds_map (·.setWidth 64) (fun _ _ => BitVec.setWidth_xor.symm) (fun _ => by rw [miniLayer, miniPort_setWidth]) ks x

theorem keyedRounds_miniLayerInv (cfg : Config) (ks : List Byte) (x : Byte) :
    keyedRounds (miniLayerInv cfg) (ks.map (·.setWidth 64)).reverse (x.setWidth 64) = (decMini cfg ks x).setWidth 64 := by
  rw [← List.map_reverse]
  exact keyedRounds_map (·.setWidth 64) (fun _ _ => BitVec.setWidth_xor.symm) (fun _ => by rw [miniLayerInv, miniPort_setWidth])
    ks.reverse x

/-- Entries of 8 bits are their bytes, zero-extended (10_state.md R55). -/
theorem map_setWidth_miniKeys {ks : List Block} (hnarrow : ∀ k ∈ ks, k.toNat < 256) : (miniKeys ks).map (·.setWidth 64) = ks := by
  rw [miniKeys, List.map_map]
  refine (List.map_congr_left fun k hk => ?_).trans ks.map_id
  apply BitVec.eq_of_toNat_eq
  have hlow := hnarrow k hk
  simp only [Function.comp_apply, BitVec.toNat_setWidth, id_eq]
  omega

section Commands

variable {cfg : Config} {i : Instr} {s : State} {w : Working}

/-! ### The units inside a command -/

/-- The key-schedule datapath inside a command that drives it until its last round. -/
theorem keyCycle_reaches {extract : KeyWord → Block} {update : Nat → KeyWord → KeyWord} {key : KeyWord} {rounds : Nat} {next : Fsm}
    (hf : InFlight i s)
    (hcycle : ∀ w, w.fsm = .ready ∨ w.fsm = .keyRounds → commandCycle cfg i s w = keyCycle extract update key rounds next w)
    (hready : w.fsm = .ready) (hpos : 0 < rounds) (hmax : rounds < 256) :
    Reaches cfg s (rounds + 1) w fun w' => w'.fsm = next ∧ w'.shadow = scheduleFrom extract update rounds 1 key := by
  have hlen : (scheduleFrom extract update rounds 1 key).length = rounds := scheduleFrom_length ..
  refine hf.cycle (by rw [hready]; decide)
    (hf.countdown (P := KeyRoundsLeft extract update next (scheduleFrom extract update rounds 1 key)) (fun n w h => ?_) ?_)
  · have hround := keyCycle_round key (hlen.trans_lt hmax) h
    obtain ⟨hfsm, -⟩ := h
    rw [hlen, ← hcycle w (.inr hfsm)] at hround
    exact ⟨by rw [hfsm]; decide, hround⟩
  · rw [hcycle w (.inl hready)]
    exact keyCycle_ready key hpos hready

section Rounds

variable {layer : Block → Block} {ks : List Block} {x : Block}

/-- The encryption FSM inside a command that drives it through Init and the rounds: Final is next. What a cycle before Final keeps, Q,
still holds there. -/
theorem encRounds_reaches {Q : Working → Prop} (hf : InFlight i s) (hpos : 0 < ks.length) (hmax : ks.length < 256)
    (hkeep : ∀ w, w.fsm ≠ .blockFinal → Q w → Q (encCycle layer ks x w))
    (hcycle : ∀ w, w.fsm = .blockRound → Q w → commandCycle cfg i s w = encCycle layer ks x w)
    (hinit : w.fsm = .ready ∨ w.fsm = .blockInit) (hfirst : commandCycle cfg i s w = encCycle layer ks x w) (hQ : Q w) :
    Reaches cfg s ks.length w fun w' => EncRoundsLeft layer ks (keyedRounds layer ks x) 0 w' ∧ Q w' := by
  have hstart : w.fsm ≠ .done ∧ w.fsm ≠ .blockFinal := by obtain h | h := hinit <;> rw [h] <;> decide
  obtain ⟨hrunning, hnotFinal⟩ := hstart
  have hrounds : Reaches cfg s (ks.length - 1 + 1) w
      fun w' => EncRoundsLeft layer ks (keyedRounds layer ks x) 0 w' ∧ Q w' := by
    refine hf.cycle hrunning
      (hf.countdown (P := fun n w' => EncRoundsLeft layer ks (keyedRounds layer ks x) n w' ∧ Q w') (fun n w h => ?_) ?_)
    · obtain ⟨hleft, hQ⟩ := h
      have hfsm : w.fsm = .blockRound := hleft.fsm
      rw [hcycle w hfsm hQ]
      exact ⟨hleft.running, encCycle_round hmax hleft, hkeep w (by rw [hfsm]; decide) hQ⟩
    · rw [hfirst]
      exact ⟨encCycle_init hpos hinit, hkeep w hnotFinal hQ⟩
  rwa [Nat.sub_add_cancel hpos] at hrounds

/-- The encryption FSM as a whole command. -/
theorem encCycle_reaches (hf : InFlight i s) (hcycle : ∀ w, commandCycle cfg i s w = encCycle layer ks x w) (hready : w.fsm = .ready)
    (hpos : 0 < ks.length) (hmax : ks.length < 256) :
    Reaches cfg s (ks.length + 1) w fun w' => w'.fsm = .done ∧ w'.staged = keyedRounds layer ks x := by
  refine (encRounds_reaches (Q := fun _ => True) hf hpos hmax (fun _ _ _ => trivial) (fun w _ _ => hcycle w) (.inl hready) (hcycle w)
    trivial).trans fun w' h => ?_
  obtain ⟨hleft, -⟩ := h
  refine hf.lastCycle hleft.running ?_
  rw [hcycle, encCycle_final hleft]
  exact ⟨rfl, rfl⟩

/-- The decryption FSM as a whole command. -/
theorem decCycle_reaches (hf : InFlight i s) (hcycle : ∀ w, commandCycle cfg i s w = decCycle layer ks x w) (hready : w.fsm = .ready)
    (hpos : 0 < ks.length) (hmax : ks.length < 256) :
    Reaches cfg s (ks.length + 1) w fun w' => w'.fsm = .done ∧ w'.staged = keyedRounds layer ks.reverse x := by
  have hrounds : Reaches cfg s (ks.length - 1 + 1) w (DecRoundsLeft layer ks (keyedRounds layer ks.reverse x) 0) := by
    refine hf.cycle (by rw [hready]; decide) (hf.countdown (P := DecRoundsLeft layer ks (keyedRounds layer ks.reverse x))
      (fun n w h => ?_) ?_)
    · rw [hcycle]
      exact ⟨h.running, decCycle_round h⟩
    · rw [hcycle]
      exact decCycle_ready hpos hmax hready
  rw [Nat.sub_add_cancel hpos] at hrounds
  refine hrounds.trans fun w' h => hf.lastCycle h.running ?_
  rw [hcycle, decCycle_final h]
  exact ⟨rfl, rfl⟩

end Rounds

/-! ### ENCRYPT and DECRYPT -/

theorem loaded_of_noError (hi : i = .encrypt ∨ i = .decrypt) (hok : errorOf i s = .ok) : s.ksCR ≠ 0#8 := by
  intro hnone
  obtain rfl | rfl := hi <;> simp [errorOf, commandErrors, firstError, hnone] at hok

/-- A schedule in use has KS_C_R keys, at least one, and RC can count them. -/
theorem validSchedule_bounds (hinv : CoreInv s) (hloaded : s.ksCR ≠ 0#8) :
    (validSchedule s).length = s.ksCR.toNat ∧ 0 < (validSchedule s).length ∧ (validSchedule s).length < 256 := by
  have hlen := validSchedule_length hinv.roundsInFile
  exact ⟨hlen, by rw [hlen]; bv_omega, hlen.trans_lt s.ksCR.isLt⟩

theorem encrypt_reaches (hf : InFlight .encrypt s) (hinv : CoreInv s) (hready : w.fsm = .ready) :
    Reaches cfg s (s.ksCR.toNat + 1) w
      fun w' => w'.fsm = .done ∧ w'.staged = encBlock cfg s.ksCVar (validSchedule s) s.cur.din := by
  obtain ⟨hlen, hpos, hmax⟩ := validSchedule_bounds hinv (loaded_of_noError (.inl rfl) hf.noError)
  rw [← hlen]
  by_cases hvar : s.ksCVar = .mini
  · have hcycle (w : Working) : commandCycle cfg .encrypt s w =
        encCycle (miniLayer cfg) (validSchedule s) ((miniPort s.cur.din).setWidth 64) w := by
      rw [commandCycle, encryptCycle, hvar]
    rw [encBlock_of_mini cfg hvar, ← keyedRounds_miniLayer, map_setWidth_miniKeys (hinv.miniEntriesNarrow hvar)]
    exact encCycle_reaches hf hcycle hready hpos hmax
  · have hcycle (w : Working) : commandCycle cfg .encrypt s w = encCycle roundLayer64 (validSchedule s) s.cur.din w := by
      rw [commandCycle, encryptCycle]
      split
      · contradiction
      all_goals rfl
    rw [encBlock_of_ne_mini cfg hvar, enc64]
    exact encCycle_reaches hf hcycle hready hpos hmax

theorem decrypt_reaches (hf : InFlight .decrypt s) (hinv : CoreInv s) (hready : w.fsm = .ready) :
    Reaches cfg s (s.ksCR.toNat + 1) w
      fun w' => w'.fsm = .done ∧ w'.staged = decBlock cfg s.ksCVar (validSchedule s) s.cur.din := by
  obtain ⟨hlen, hpos, hmax⟩ := validSchedule_bounds hinv (loaded_of_noError (.inr rfl) hf.noError)
  rw [← hlen]
  by_cases hvar : s.ksCVar = .mini
  · have hcycle (w : Working) : commandCycle cfg .decrypt s w =
        decCycle (miniLayerInv cfg) (validSchedule s) ((miniPort s.cur.din).setWidth 64) w := by
      rw [commandCycle, decryptCycle, hvar]
    rw [decBlock_of_mini cfg hvar, ← keyedRounds_miniLayerInv, map_setWidth_miniKeys (hinv.miniEntriesNarrow hvar)]
    exact decCycle_reaches hf hcycle hready hpos hmax
  · have hcycle (w : Working) : commandCycle cfg .decrypt s w = decCycle roundLayerInv64 (validSchedule s) s.cur.din w := by
      rw [commandCycle, decryptCycle]
      split
      · contradiction
      all_goals rfl
    rw [decBlock_of_ne_mini cfg hvar, dec64]
    exact decCycle_reaches hf hcycle hready hpos hmax

/-! ### The key loads -/

/-- The P80 schedule in the 128-bit KREG (R176, R178). -/
theorem scheduleFrom_p80 (key : KeyWord) (rounds : Nat) :
    scheduleFrom (fun k : KeyWord => extractP80 (k.setWidth 80)) (fun i k => (updateP80 i (k.setWidth 80)).setWidth 128) rounds 1
      ((keyP80 key).setWidth 128) = scheduleP80 (keyP80 key) rounds := by
  have hback (k : BitVec 80) : (k.setWidth 128).setWidth 80 = k :=
    (BitVec.setWidth_setWidth_of_le k (by decide)).trans (BitVec.setWidth_eq k)
  have hmap := scheduleFrom_map (extract := extractP80) (update := updateP80)
    (extract' := fun k : KeyWord => extractP80 (k.setWidth 80)) (update' := fun i k => (updateP80 i (k.setWidth 80)).setWidth 128)
    (·.setWidth 128) id (fun k => congrArg extractP80 (hback k)) (fun i k => by rw [hback]) rounds 1 (keyP80 key)
  rwa [List.map_id] at hmap

/-- The Mini schedule in the 128-bit KREG, each entry zero-extended (R176, R180). -/
theorem scheduleFrom_mini (key : KeyWord) (rounds : Nat) :
    scheduleFrom (fun k : KeyWord => (extractMini (k.setWidth 16)).setWidth 64)
      (fun i k => (updateMini cfg i (k.setWidth 16)).setWidth 128) rounds 1 ((keyMini key).setWidth 128) =
        (miniSchedule cfg (keyMini key) rounds).map (·.setWidth 64) := by
  have hback (k : Half) : (k.setWidth 128).setWidth 16 = k :=
    (BitVec.setWidth_setWidth_of_le k (by decide)).trans (BitVec.setWidth_eq k)
  exact scheduleFrom_map (extract := extractMini) (update := updateMini cfg) (·.setWidth 128) (·.setWidth 64)
    (fun k => by rw [hback]) (fun i k => by rw [hback]) rounds 1 (keyMini key)

theorem keyLoadPresent_reaches {klen rounds : Nat} (hf : InFlight (.keyLoadPresent klen rounds) s) (hr : rounds ≤ 32)
    (hready : w.fsm = .ready) :
    Reaches cfg s (roundCount rounds 32 + 1) w
      fun w' => w'.fsm = .done ∧ w'.shadow = scheduleC cfg (presentVariant klen) s.cur.key (roundCount rounds 32) := by
  have hpos := roundCount_pos rounds 32 (by decide)
  have hmax := (roundCount_le rounds 32 hr le_rfl).trans_lt (by decide : 32 < 256)
  by_cases hten : klen = 10
  · rw [presentVariant, if_pos hten, scheduleC, ← scheduleFrom_p80]
    exact keyCycle_reaches hf (fun w _ => if_pos hten) hready hpos hmax
  · rw [presentVariant, if_neg hten, scheduleC, scheduleP128]
    exact keyCycle_reaches hf (fun w _ => if_neg hten) hready hpos hmax

theorem keyLoadMini_reaches {rounds : Nat} (hf : InFlight (.keyLoadMini rounds) s) (hr : rounds ≤ 32) (hready : w.fsm = .ready) :
    Reaches cfg s (roundCount rounds 4 + 1) w
      fun w' => w'.fsm = .done ∧ w'.shadow = scheduleC cfg .mini s.cur.key (roundCount rounds 4) := by
  have hpos := roundCount_pos rounds 4 (by decide)
  have hmax := (roundCount_le rounds 4 hr (by decide)).trans_lt (by decide : 32 < 256)
  rw [scheduleC, ← scheduleFrom_mini]
  exact keyCycle_reaches hf (fun w _ => rfl) hready hpos hmax

/-! ### MAC_INIT -/

/-- The shadow file's schedule in MAC_INIT. -/
abbrev shadowMacKeys (cfg : Config) (s : State) : List Block := (miniSchedule cfg (keyMini s.cur.key) 4).map (·.setWidth 64)

/-- After its key schedule, MAC_INIT runs the encryption FSM over the shadow file. -/
theorem macInitCycle_block (hfsm : w.fsm = .blockInit ∨ w.fsm = .blockRound ∨ w.fsm = .blockFinal) :
    commandCycle cfg .macInit s w = encCycle (miniLayer cfg) w.shadow 0#64 w := by
  obtain h | h | h := hfsm <;> simp only [commandCycle, macInitCycle, h]

/-- MAC_INIT stages the Mini schedule, and then the encryption of 0 under it (42_mac.md R240). -/
theorem macInit_reaches (hf : InFlight .macInit s) (hready : w.fsm = .ready) :
    Reaches cfg s (4 + 1 + (4 + 1)) w fun w' => w'.fsm = .done ∧ w'.shadow = shadowMacKeys cfg s ∧
      w'.staged = (hashKey cfg (miniSchedule cfg (keyMini s.cur.key) 4)).setWidth 64 := by
  have hlen : (shadowMacKeys cfg s).length = 4 := by simp
  have hkeys : Reaches cfg s (4 + 1) w fun w' => w'.fsm = .blockInit ∧ w'.shadow = shadowMacKeys cfg s := by
    rw [shadowMacKeys, ← scheduleFrom_mini]
    refine keyCycle_reaches hf (fun w h => ?_) hready (by decide) (by decide)
    obtain h | h := h <;> simp only [commandCycle, macInitCycle, h] <;> rfl
  refine hkeys.trans fun w₁ h₁ => ?_
  obtain ⟨hinit, hshadow⟩ := h₁
  have hrounds := encRounds_reaches (cfg := cfg) (layer := miniLayer cfg) (ks := shadowMacKeys cfg s) (x := 0#64)
    (Q := fun w => w.shadow = shadowMacKeys cfg s) hf (by rw [hlen]; decide) (by rw [hlen]; decide)
    (fun w _ h => encCycle_shadow.trans h) (fun w hfsm h => h ▸ macInitCycle_block (.inr (.inl hfsm))) (.inr hinit)
    (hshadow ▸ macInitCycle_block (.inl hinit)) hshadow
  rw [hlen] at hrounds
  refine hrounds.trans fun w₂ h₂ => ?_
  obtain ⟨hleft, hshadow₂⟩ := h₂
  refine hf.lastCycle hleft.running ?_
  rw [macInitCycle_block (.inr (.inr hleft.fsm)), hshadow₂, encCycle_final hleft]
  exact ⟨rfl, hshadow₂, keyedRounds_miniLayer cfg _ 0#8⟩

/-! ### MAC_START -/

/-- GCTR's output after the first n bytes of the IV (42_mac.md R232). -/
def placedBytes (cfg : Config) (ks : List Byte) (iv : Half) : Nat → Half
  | 0 => 0#16
  | n + 1 => placedBytes cfg ks iv n ||| ((encMini cfg ks (ivByte iv n)).setWidth 16 <<< (8 * n))

theorem bitLen_le_iff (v n : Nat) : bitLen v ≤ n ↔ v < 2 ^ n :=
  ⟨fun h => (lt_two_pow_bitLen v).trans_le (Nat.pow_le_pow_right two_pos h), bitLen_le_of_lt⟩

theorem gctrBytes_le (cfg : Config) (iv : Half) : gctrBytes cfg iv ≤ 2 := by
  have hbits : bitLen iv.toNat ≤ 16 := bitLen_le_of_lt iv.isLt
  unfold gctrBytes
  split <;> omega

/-- GCTR encrypts as many bytes of the IV as the reference latency counts, in both modes (42_mac.md R232). -/
theorem gctr_eq_placedBytes (cfg : Config) (ks : List Byte) (iv : Half) : gctr cfg ks iv = placedBytes cfg ks iv (gctrBytes cfg iv) := by
  have hlow : iv.setWidth 8 = ivByte iv 0 := BitVec.setWidth_eq_extractLsb' (by decide)
  have hhigh : (iv >>> 8).setWidth 8 = ivByte iv 1 := by
    ext j hj
    simp [ivByte]
  cases hloop : cfg.gctrLoop with
  | fixedWidth => simp [gctr, gctrFixedWidth, gctrBytes, hloop, placedBytes, BitVec.or_comm]
  | byValue =>
    have hzero := bitLen_le_iff iv.toNat 0
    have hone := bitLen_le_iff iv.toNat 8
    have htwo : bitLen iv.toNat ≤ 16 := bitLen_le_of_lt iv.isLt
    have hfirst : iv = 0#16 ↔ iv.toNat < 2 ^ 0 := by rw [← BitVec.toNat_inj]; simp
    have hsecond : iv >>> 8 = 0#16 ↔ iv.toNat < 2 ^ 8 := by
      rw [← BitVec.toNat_inj, BitVec.toNat_ushiftRight, Nat.shiftRight_eq_div_pow]
      exact Nat.div_eq_zero_iff_lt (by decide)
    simp only [gctr, hloop, gctrByValue, gctrLoop, hfirst, hsecond, gctrBytes, ← hzero, ← hone, hlow, hhigh]
    split
    · rw [show (bitLen iv.toNat + 7) / 8 = 0 by omega]
      rfl
    · split
      · rw [show (bitLen iv.toNat + 7) / 8 = 1 by omega]
        rfl
      · rw [show (bitLen iv.toNat + 7) / 8 = 2 by omega]
        rfl

/-- A byte placed in the 16-bit keystream is placed alike in the 64-bit staged value. -/
theorem setWidth_placed (b : Byte) {n : Nat} (hn : n < 2) : (b.setWidth 16 <<< (8 * n)).setWidth 64 = b.setWidth 64 <<< (8 * n) := by
  apply BitVec.eq_of_getLsbD_eq
  intro j hj
  obtain hin | hout := Nat.lt_or_ge (j - 8 * n) 8
  · simp only [BitVec.getLsbD_setWidth, BitVec.getLsbD_shiftLeft, hj, show j < 16 by omega, show j - 8 * n < 16 by omega,
      show j - 8 * n < 64 by omega, decide_true, Bool.true_and]
  · simp [BitVec.getLsbD_of_ge b _ hout]

/-- MAC_START before the IV byte n, or at its end when n is their number. -/
structure MacStartAt (cfg : Config) (s : State) (n : Nat) (w : Working) : Prop where
  index : w.gctrIdx = n
  fsm : w.fsm = if n < gctrBytes cfg s.cur.macIv then .blockInit else .done
  placed : w.staged = (placedBytes cfg (macSchedule s) s.cur.macIv n).setWidth 64

theorem macStart_first (hready : w.fsm = .ready) : MacStartAt cfg s 0 (commandCycle cfg .macStart s w) := by
  simp only [commandCycle, macStartCycle, hready]
  refine ⟨rfl, ?_, rfl⟩
  by_cases hnone : gctrBytes cfg s.cur.macIv = 0
  · simp [hnone]
  · simp [hnone, Nat.pos_of_ne_zero hnone]

/-- One IV byte: a Mini encryption, whose Final places the byte. -/
theorem macStart_byte (hf : InFlight .macStart s) {n : Nat} (hn : n < gctrBytes cfg s.cur.macIv) (h : MacStartAt cfg s n w) :
    Reaches cfg s (4 + 1) w (MacStartAt cfg s (n + 1)) := by
  have hlen : (macKeys64 s).length = 4 := by simp [macKeys64, macSchedule]
  have hinit : w.fsm = .blockInit := h.fsm.trans (if_pos hn)
  have hrounds := encRounds_reaches (cfg := cfg) (layer := miniLayer cfg) (ks := macKeys64 s)
    (x := (ivByte s.cur.macIv n).setWidth 64)
    (Q := fun w => w.gctrIdx = n ∧ w.staged = (placedBytes cfg (macSchedule s) s.cur.macIv n).setWidth 64) hf
    (by rw [hlen]; decide) (by rw [hlen]; decide)
    (fun w hnotFinal ⟨hindex, hplaced⟩ => ⟨encCycle_gctrIdx.trans hindex, (encCycle_staged hnotFinal).trans hplaced⟩)
    (fun w hfsm ⟨hindex, _⟩ => by simp only [commandCycle, macStartCycle, hfsm, hindex]) (.inr hinit)
    (by simp only [commandCycle, macStartCycle, hinit, h.index]) ⟨h.index, h.placed⟩
  rw [hlen] at hrounds
  refine hrounds.trans fun w₁ h₁ => ?_
  obtain ⟨hleft, hindex, hplaced⟩ := h₁
  have hfsm : w₁.fsm = .blockFinal := hleft.fsm
  have hbyte : w₁.st ^^^ roundKey (macKeys64 s) (macKeys64 s).length =
      (encMini cfg (macSchedule s) (ivByte s.cur.macIv n)).setWidth 64 :=
    hleft.final.trans (keyedRounds_miniLayer cfg (macSchedule s) _)
  refine hf.lastCycle hleft.running ?_
  simp only [commandCycle, macStartCycle, hfsm, macStartFinal]
  refine ⟨by rw [hindex], by rw [hindex], ?_⟩
  rw [hbyte, hindex, hplaced, placedBytes, BitVec.setWidth_or, setWidth_placed _ (hn.trans_le (gctrBytes_le _ _))]

theorem macStart_bytes (hf : InFlight .macStart s) (left : Nat) {n : Nat} (hn : n + left = gctrBytes cfg s.cur.macIv)
    (h : MacStartAt cfg s n w) : Reaches cfg s (left * (4 + 1)) w (MacStartAt cfg s (gctrBytes cfg s.cur.macIv)) := by
  induction left generalizing n w with
  | zero =>
    rw [Nat.zero_mul, ← hn]
    exact .zero h
  | succ left ih =>
    rw [Nat.succ_mul, Nat.add_comm]
    exact (macStart_byte hf (by omega) h).trans fun w' h' => ih (by omega) h'

/-- MAC_START stages GCTR, one IV byte after the other (42_mac.md R232, R241). -/
theorem macStart_reaches (hf : InFlight .macStart s) (hready : w.fsm = .ready) :
    Reaches cfg s (1 + gctrBytes cfg s.cur.macIv * (4 + 1)) w fun w' =>
      w'.fsm = .done ∧ w'.staged = (gctr cfg (macSchedule s) s.cur.macIv).setWidth 64 := by
  have hfirst : Reaches cfg s 1 w (MacStartAt cfg s 0) := hf.lastCycle (by rw [hready]; decide) (macStart_first hready)
  have hall := hfirst.trans fun w' h => macStart_bytes hf (gctrBytes cfg s.cur.macIv) (Nat.zero_add _) h
  refine ⟨⟨?_, ?_⟩, hall.notBefore⟩
  · exact hall.after.fsm.trans (if_neg (Nat.lt_irrefl _))
  · rw [gctr_eq_placedBytes]
    exact hall.after.placed

/-! ### The staged result -/

/-- A command ends with the error that the rules' priority order names, or with none (60_exceptions.md R282). -/
theorem errCode_exec {t : State} (h : exec i s = .next t) : t.errCode = errorOf i s := by
  cases i with
  | nop => exact congrArg State.errCode (execNop_cases h)
  | gfConfigure m =>
    obtain ⟨hk, rfl⟩ | ⟨hk, rfl⟩ := execGfConfigure_cases h <;> simp [errorOf, commandErrors, firstError, hk]
  | gfMul =>
    obtain ⟨hk, rfl⟩ | ⟨hk, rfl⟩ := execGfMul_cases h <;> simp [errorOf, commandErrors, firstError, hk]
  | keyLoadPresent klen rounds =>
    obtain ⟨hk, rfl⟩ | ⟨hk, hr, rfl⟩ | ⟨hk, hr, rfl⟩ := execKeyLoadPresent_cases h
    · simp [errorOf, commandErrors, firstError, hk]
    · have hlen : klen = 10 ∨ klen = 16 := by omega
      obtain rfl | rfl := hlen <;> simp [errorOf, commandErrors, firstError, hr]
    · have hlen : klen = 10 ∨ klen = 16 := by omega
      obtain rfl | rfl := hlen <;> simp [errorOf, commandErrors, firstError, Nat.not_lt.mpr hr]
  | keyLoadMini rounds =>
    obtain ⟨hr, rfl⟩ | ⟨hr, rfl⟩ := execKeyLoadMini_cases h
    · simp [errorOf, commandErrors, firstError, hr]
    · simp [errorOf, commandErrors, firstError, Nat.not_lt.mpr hr]
  | encrypt =>
    obtain ⟨hk, rfl⟩ | ⟨hk, rfl⟩ := execEncrypt_cases h <;> simp [errorOf, commandErrors, firstError, hk]
  | decrypt =>
    obtain ⟨hk, rfl⟩ | ⟨hk, rfl⟩ := execDecrypt_cases h <;> simp [errorOf, commandErrors, firstError, hk]
  | macInit => exact congrArg State.errCode (execMacInit_cases h)
  | macStart =>
    obtain ⟨hk, rfl⟩ | ⟨hk, rfl⟩ := execMacStart_cases h <;> simp [errorOf, commandErrors, firstError, hk]
  | macChunk =>
    obtain ⟨hk, rfl⟩ | ⟨hk, hv, rfl⟩ | ⟨hk, hv, rfl⟩ := execMacChunk_cases h
    · simp [errorOf, commandErrors, firstError, hk]
    · simp [errorOf, commandErrors, firstError, hk, hv]
    · simp [errorOf, commandErrors, firstError, hk, hv]
  | ivCond => exact congrArg State.errCode (execIvCond_cases h)

end Commands

/-- Settles O56: each command's units reach the value its meaning writes. -/
theorem datapathStagesTheResult : Obligations.DatapathStagesTheResult := by
  rintro s t i w hinv hready hdec hok hexec rfl
  have hf : InFlight i s := ⟨hdec, hok⟩
  have hcode : t.errCode = .ok := (errCode_exec hexec).trans hok
  rw [hf.referenceLatency]
  refine ⟨?product, ?block, ?schedule, ?macKey, ?keystream, ?hash⟩
  case product =>
    rintro rfl
    obtain ⟨-, rfl⟩ | ⟨hvalid, rfl⟩ := execGfMul_cases hexec
    · nomatch hcode
    · exact (mulCycle_reaches hf (fun _ => rfl) hready hvalid hinv.fieldContext).after.2
  case block =>
    rintro (rfl | rfl)
    · rw [doutOf_encrypt hexec, if_neg (loaded_of_noError (.inl rfl) hok)]
      exact (encrypt_reaches hf hinv hready).after.2
    · rw [doutOf_decrypt hexec, if_neg (loaded_of_noError (.inr rfl) hok)]
      exact (decrypt_reaches hf hinv hready).after.2
  case schedule =>
    rintro (⟨klen, rounds, rfl⟩ | ⟨rounds, rfl⟩)
    · obtain ⟨-, rfl⟩ | ⟨-, -, rfl⟩ | ⟨-, hr, rfl⟩ := execKeyLoadPresent_cases hexec
      · nomatch hcode
      · nomatch hcode
      · rw [validSchedule_completed, validSchedule_installSchedule]
        · exact (keyLoadPresent_reaches hf hr hready).after.2
        · exact (scheduleC_length _ _ _ _ (presentVariant_ne_noKey klen)).trans_le (roundCount_le rounds 32 hr le_rfl)
    · obtain ⟨-, rfl⟩ | ⟨hr, rfl⟩ := execKeyLoadMini_cases hexec
      · nomatch hcode
      · rw [validSchedule_completed, validSchedule_installSchedule]
        · exact (keyLoadMini_reaches hf hr hready).after.2
        · exact (scheduleC_length _ _ _ _ (by decide)).trans_le (roundCount_le rounds 4 hr (by decide))
  case macKey =>
    rintro rfl
    obtain rfl := execMacInit_cases hexec
    obtain ⟨-, hshadow, hstaged⟩ := (macInit_reaches (cfg := Config.machine) hf hready).after
    refine ⟨hshadow.trans ?_, hstaged⟩
    rw [macKeys64, macSchedule, completed_ksMac, fileWrite_toList_full _ _ (miniSchedule_length _ _ _)]
  case keystream =>
    rintro rfl
    obtain ⟨-, rfl⟩ | ⟨-, rfl⟩ := execMacStart_cases hexec
    · nomatch hcode
    · exact (macStart_reaches hf hready).after.2
  case hash =>
    rintro rfl
    obtain ⟨-, rfl⟩ | ⟨-, -, rfl⟩ | ⟨-, hvalid, rfl⟩ := execMacChunk_cases hexec
    · nomatch hcode
    · nomatch hcode
    · exact (mulCycle_reaches hf (fun _ => rfl) hready hvalid hinv.fieldContext).after.2

end Sys2Proof.CipherProofs
end

section
/-! SUPPORT. The commands of the MAC: their answers, the MAC's state machine, the separation of the two key contexts, and the latched
keystream (42_mac.md R230 to R234, R240 to R247). -/

namespace Sys2Proof.MacProofs

open Sys2Proof Sys2Proof.Machine Sys2Proof.Laws Sys2Proof.StateProofs Sys2Proof.EncodingProofs Sys2Proof.CipherProofs

/-! ### What each command answers -/

theorem exec_macStart_unkeyed {s : State} (hnone : s.ksMacR = 0#8) : exec .macStart s = .next (failed .macNotReady s) := if_pos hnone

theorem exec_macStart_keyed {s : State} (hkeyed : s.ksMacR ≠ 0#8) :
    exec .macStart s = .next (completed { s with
      macGctr := gctr Config.machine (macSchedule s) s.cur.macIv, macHash := 0#16, macTag := 0#16, macOpen := true }) :=
  if_neg hkeyed

theorem exec_macChunk_closed {s : State} (hclosed : s.macOpen = false) : exec .macChunk s = .next (failed .macNotReady s) :=
  if_pos hclosed

theorem exec_macChunk_noField {s : State} (hopen : s.macOpen = true) (hnone : s.fieldValid = false) :
    exec .macChunk s = .next (failed .fieldNotConfigured s) :=
  (if_neg (by simp [hopen])).trans (if_pos hnone)

theorem exec_macChunk_open {s : State} (hopen : s.macOpen = true) (hvalid : s.fieldValid = true) :
    exec .macChunk s = .next (completed { s with
      macHash := hashStep s s.macHash s.cur.macDin, macTag := tagOf (hashStep s s.macHash s.cur.macDin) s.macGctr }) :=
  (if_neg (by simp [hopen])).trans (if_neg (by simp [hvalid]))

/-! ### IV_COND -/

/-- A well-formed command has one word (30_encoding.md R112, R115). -/
theorem decode_eq_some_iff_encode {w : Word} {i : Instr} (hwf : WellFormed i) : decode w = some i ↔ w = encode i :=
  ⟨fun h => (encodeOfDecodeIsTheWord w i h).2.symm, fun h => h ▸ decodeOfEncodeIsTheCommand i hwf⟩

/-- The mask keeps bits 15 to 4, and the OR sets bit 0 of the nibble it cleared (R243). -/
theorem conditionIv_eq_append (x : Half) : conditionIv x = x.extractLsb' 4 12 ++ 1#4 := by
  have hmask : ∀ i < 16, (0xFFF0#16).getLsbD i = decide (4 ≤ i) := by decide
  have hforced : ∀ i < 16, (0x0001#16).getLsbD i = decide (i = 0) := by decide
  apply BitVec.eq_of_getLsbD_eq
  intro i hi
  rw [conditionIv, BitVec.getLsbD_or, BitVec.getLsbD_and, hmask i hi, hforced i hi, BitVec.getLsbD_append]
  obtain hlow | hhigh := Nat.lt_or_ge i 4
  · simp [hlow]
  · simp [hhigh, Nat.not_lt.mpr hhigh, show i ≠ 0 by omega, show i - 4 < 12 by omega]

/-- Settles O38: the word is the command's own, and the snapshot's IV is conditioned, whatever MAC_IV holds. -/
theorem ivCondForcesTheLowNibble : Obligations.IvCondForcesTheLowNibble := by
  refine ⟨fun w => decode_eq_some_iff_encode rfl, fun s => ?_⟩
  rw [← conditionIv_eq_append]
  rfl

/-! ### MAC_INIT, MAC_START and MAC_CHUNK -/

/-- Settles O35: the schedule fills KS_MAC, its entries are those of the recurrence, and MAC_H is its hash key. -/
theorem macInitKeysTheMac : Obligations.MacInitKeysTheMac := by
  intro s
  refine ⟨fileWrite s.ksMac (macInitSchedule s), hashKey Config.machine (macInitSchedule s), rfl, ?hashKey, ?entries⟩
  case hashKey => rw [fileWrite_toList_full _ _ (miniSchedule_length _ _ _), hashKey]
  case entries =>
    intro kreg hkey hstep i
    have hfile := fileWrite_scheduleFrom (extract := extractMini) s.ksMac
      (fun j hj => (hstep j hj).trans (nextKregMini_eq Config.machine j _)) i i.isLt
    rwa [hkey, ← keyMini_eq] at hfile

/-- Two bytes placed in a 16-bit value stand side by side. -/
theorem shiftLeft_or_eq_append (hi lo : Byte) : lo.setWidth 16 ||| hi.setWidth 16 <<< 8 = hi ++ lo := by
  apply BitVec.eq_of_getLsbD_eq
  intro i hi'
  rw [BitVec.getLsbD_or, BitVec.getLsbD_shiftLeft, BitVec.getLsbD_setWidth, BitVec.getLsbD_setWidth, BitVec.getLsbD_append]
  obtain hlow | hhigh := Nat.lt_or_ge i 8
  · simp [hlow, hi']
  · simp [Nat.not_lt.mpr hhigh, hi', BitVec.getLsbD_of_ge lo i hhigh, show i - 8 < 16 by omega]

/-- The keystream's two bytes, each 0 where GCTR does not reach it (R232). -/
theorem placedBytes_eq_append (cfg : Config) (ks : List Byte) (iv : Half) {n : Nat} (hn : n ≤ 2) :
    placedBytes cfg ks iv n =
      (if 1 < n then encMini cfg ks (ivByte iv 1) else 0#8) ++ (if 0 < n then encMini cfg ks (ivByte iv 0) else 0#8) := by
  rw [← shiftLeft_or_eq_append]
  interval_cases n <;> simp [placedBytes]

/-- GCTR encrypts byte n of the IV unless it runs BY_VALUE and nothing is left of the IV from that byte on (R232). -/
theorem lt_gctrBytes_iff (cfg : Config) (iv : Half) {n : Nat} (hn : n < 2) :
    n < gctrBytes cfg iv ↔ ¬(cfg.gctrLoop = .byValue ∧ iv.toNat < 2 ^ (8 * n)) := by
  cases hloop : cfg.gctrLoop with
  | byValue =>
    have hlow := bitLen_le_iff iv.toNat (8 * n)
    simp only [gctrBytes, hloop, true_and, ← hlow]
    omega
  | fixedWidth => simpa [gctrBytes, hloop] using hn

/-- The keystream byte by byte, in both modes (R232). -/
theorem gctr_eq_append (cfg : Config) (ks : List Byte) (iv : Half) :
    gctr cfg ks iv =
      (if cfg.gctrLoop = .byValue ∧ iv.toNat < 0x100 then 0#8 else encMini cfg ks (iv.extractLsb' 8 8)) ++
      (if cfg.gctrLoop = .byValue ∧ iv = 0#16 then 0#8 else encMini cfg ks (iv.extractLsb' 0 8)) := by
  have hzero : iv = 0#16 ↔ iv.toNat < 2 ^ (8 * 0) := by rw [← BitVec.toNat_inj]; simp
  rw [gctr_eq_placedBytes, placedBytes_eq_append cfg ks iv (gctrBytes_le cfg iv)]
  simp only [lt_gctrBytes_iff cfg iv (by decide : 1 < 2), lt_gctrBytes_iff cfg iv (by decide : 0 < 2), hzero, ite_not]
  rfl

/-- Settles O36: the keystream MAC_START latches, read byte by byte. -/
theorem macStartOpensTheMessage : Obligations.MacStartOpensTheMessage := by
  intro s
  refine ⟨exec_macStart_unkeyed, fun hkeyed => ?_⟩
  rw [exec_macStart_keyed hkeyed, gctr_eq_append]
  rfl

theorem hashStep_eq (s : State) (h : GfWord) (c : Half) :
    hashStep s h c = BitVec.ofNat 16 (gfMul (h ^^^ c).toNat s.macH.toNat s.fieldDeg.toNat s.fieldPoly.toNat) := by
  rw [hashStep, gfmProduct, BitVec.toNat_setWidth_of_le (by decide)]

/-- Settles O37: the two checks in their order, then R233's step and R234's tag. -/
theorem macChunkAbsorbsOneChunk : Obligations.MacChunkAbsorbsOneChunk := by
  intro s
  refine ⟨exec_macChunk_closed, exec_macChunk_noField, fun hopen hvalid h hstep => ?_⟩
  rw [exec_macChunk_open hopen hvalid, hashStep_eq, ← hstep]
  rfl

/-! ### The state machine -/

theorem macKeyed_eq_false_iff (s : State) : macKeyed s = false ↔ s.ksMacR = 0#8 := by simp [macKeyed]

theorem macKeyed_eq_true_iff (s : State) : macKeyed s = true ↔ s.ksMacR ≠ 0#8 := by simp [macKeyed]

/-- Settles O39: each cell of the table is the answer of its command under the cell's guard. -/
theorem macStateMachineIsTheTable : Obligations.MacStateMachineIsTheTable := by
  refine ⟨⟨rfl, rfl⟩, fun s => ⟨⟨_, rfl, rfl, rfl, rfl⟩, fun hunkeyed => ?startUnkeyed, fun hkeyed => ?startKeyed,
    fun hclosed => ?chunkClosed, fun hopen => ?chunkOpen⟩⟩
  case startUnkeyed => exact ⟨_, exec_macStart_unkeyed ((macKeyed_eq_false_iff s).mp hunkeyed), hunkeyed, rfl, rfl⟩
  case startKeyed => exact ⟨_, exec_macStart_keyed ((macKeyed_eq_true_iff s).mp hkeyed), hkeyed, rfl, rfl⟩
  case chunkClosed => exact ⟨_, exec_macChunk_closed hclosed, rfl, hclosed, rfl⟩
  case chunkOpen =>
    cases hfield : s.fieldValid with
    | false => exact ⟨_, exec_macChunk_noField hopen hfield, rfl, hopen, rfl⟩
    | true => exact ⟨_, exec_macChunk_open hopen hfield, rfl, hopen, rfl⟩

/-! ### The two contexts -/

/-- The groups of state that make up the MAC context (R230). -/
def macGroups : List WriteGroup := [.macKey, .keystream, .openFlag, .hash]

/-- A command whose row lists no group of the MAC context leaves it (30_encoding.md R113). -/
theorem macContext_exec {i : Instr} {s t : State} (h : exec i s = .next t) (hrow : ∀ g ∈ macGroups, g ∉ writesOf i) :
    macContext t = macContext s := by
  obtain ⟨hfile, hcount, hkey⟩ := exec_groupSame h (hrow .macKey (by decide))
  have hstream : t.macGctr = s.macGctr := exec_groupSame h (hrow .keystream (by decide))
  have hopen : t.macOpen = s.macOpen := exec_groupSame h (hrow .openFlag (by decide))
  obtain ⟨hhash, htag⟩ := exec_groupSame h (hrow .hash (by decide))
  simp only [macContext, hfile, hcount, hkey, hstream, hopen, hhash, htag]

/-- Settles O24: no row of a cipher command lists a group of the MAC context, and no row of a MAC command lists KS_C. -/
theorem cipherAndMacContextsAreSeparate : Obligations.CipherAndMacContextsAreSeparate := by
  intro s t
  constructor
  · rintro i (rfl | rfl | ⟨klen, rounds, rfl⟩ | ⟨rounds, rfl⟩) h
    all_goals exact macContext_exec h (by simp [macGroups, writesOf])
  · rintro i (rfl | rfl | rfl | rfl) h
    all_goals exact exec_groupSame (g := .schedule) h (by simp [writesOf])

/-! ### The latched keystream -/

/-- MAC_START's row alone lists MAC_GCTR (30_encoding.md R113). -/
theorem exec_macGctr {i : Instr} {s t : State} (h : exec i s = .next t) (hi : i ≠ .macStart) : t.macGctr = s.macGctr := by
  refine exec_groupSame (g := .keystream) h ?_
  cases i with
  | macStart => exact absurd rfl hi
  | _ => simp [writesOf]

theorem completeAccepted_macGctr {s t : State} (h : completeAccepted s = .next t) :
    t.macGctr = s.macGctr ∨ decode s.cur.word = some .macStart := by
  obtain ⟨i, hdec, hexec⟩ | ⟨-, rfl⟩ := completeAccepted_cases h
  · obtain rfl | hi := eq_or_ne i .macStart
    · exact .inr hdec
    · exact .inl (exec_macGctr hexec hi)
  · exact .inl rfl

theorem hostWrite_macGctr (off : Offset) (strobes : Strobes) (v : Word) (s : State) :
    (hostWrite off strobes v s).macGctr = s.macGctr := by
  unfold hostWrite
  split <;> simp

/-- A step while reset is asserted keeps MAC_GCTR or is a reset (70_reset_and_hazards.md R320, R322). -/
theorem stepInReset_macGctr (e : EnvStep) (s : State) :
    (stepInReset e s).macGctr = s.macGctr ∨ e = .resetAssert ∨ e = .resetRelease := by
  cases e with
  | resetAssert => exact .inr (.inl rfl)
  | resetRelease => exact .inr (.inr rfl)
  | _ => exact .inl rfl

/-- Settles O27: of the cases of a step, only a completion and a reset reach MAC_GCTR, and the completion is MAC_START's. -/
theorem keystreamChangesOnlyAtMacStart : Obligations.KeystreamChangesOnlyAtMacStart := by
  intro s t h hchange
  cases step_case h with
  | hold _ _ ht => exact absurd (congrArg State.macGctr ht) hchange
  | quietCompletion henv hr hb ht =>
    exact .inl ⟨hb, hr, (completeAccepted_macGctr ht).resolve_left hchange, .inl henv⟩
  | inReset e rest henv hr ht =>
    obtain hkeep | rfl | rfl := stepInReset_macGctr e { s with env := rest }
    · exact absurd ((congrArg State.macGctr ht).trans hkeep) hchange
    · exact .inr ⟨rest, .inl henv⟩
    · exact .inr ⟨rest, .inr ⟨henv, hr⟩⟩
  | read off size rest _ _ ht => exact absurd (congrArg State.macGctr ht) hchange
  | write off strobes v rest _ _ ht =>
    exact absurd ((congrArg State.macGctr ht).trans (hostWrite_macGctr off strobes v _)) hchange
  | completionIdle rest _ _ _ ht => exact absurd (congrArg State.macGctr ht) hchange
  | completion rest henv hr hb ht =>
    exact .inl ⟨hb, hr, (completeAccepted_macGctr ht).resolve_left hchange, .inr ⟨rest, henv⟩⟩
  | clock rest _ _ ht =>
    obtain ⟨work, hclock⟩ := clockCycle_eq Config.machine { s with env := rest }
    exact absurd (congrArg State.macGctr (ht.trans hclock)) hchange
  | resetAssert rest henv _ _ => exact .inr ⟨rest, .inl henv⟩
  | releaseIgnored rest _ _ ht => exact absurd (congrArg State.macGctr ht) hchange

end Sys2Proof.MacProofs
end

section
/-! SUPPORT. The hash accumulator over a message: a fold of R233's step over the chunks, which is the polynomial of the chunks at the hash key
(42_mac.md R231, R233, R234, R242, R245; 40_gf_multiplier.md R137). -/

namespace Sys2Proof.MacProofs

open Sys2Proof Sys2Proof.Machine Sys2Proof.StateProofs Sys2Proof.GfProofs

/-! ### A message as a fold -/

/-- The state after a MAC_CHUNK that succeeds, with the chunk in its snapshot (R242). -/
def absorbChunk (s : State) (c : Half) : State :=
  completed { s with
    cur := { s.cur with macDin := c }, macHash := hashStep s s.macHash c, macTag := tagOf (hashStep s s.macHash c) s.macGctr }

/-- In an open message with a field every chunk is absorbed. -/
theorem absorbChunks_eq_foldl (cs : List Half) {s : State} (hopen : s.macOpen = true) (hvalid : s.fieldValid = true) :
    absorbChunks cs s = .next (cs.foldl absorbChunk s) := by
  induction cs generalizing s with
  | nil => rfl
  | cons c cs ih =>
    have hchunk : exec .macChunk { s with cur := { s.cur with macDin := c } } = .next (absorbChunk s c) :=
      exec_macChunk_open hopen hvalid
    rw [absorbChunks, hchunk]
    exact ih hopen hvalid

/-- What no chunk changes, no message changes. -/
theorem foldl_absorbChunk_keeps {α : Type} {f : State → α} (hkeep : ∀ s c, f (absorbChunk s c) = f s) (cs : List Half) (s : State) :
    f (cs.foldl absorbChunk s) = f s := by
  induction cs generalizing s with
  | nil => rfl
  | cons c cs ih => exact (ih (absorbChunk s c)).trans (hkeep s c)

/-- MAC_HASH folds R233's step, whose hash key and field stay. -/
theorem macHash_foldl_absorbChunk (cs : List Half) (s : State) :
    (cs.foldl absorbChunk s).macHash = cs.foldl (hashStep s) s.macHash := by
  induction cs generalizing s with
  | nil => rfl
  | cons c cs ih => exact ih (absorbChunk s c)

/-- After a chunk MAC_TAG is MAC_HASH under the keystream, and ERR = 0 (R234, R242). -/
theorem foldl_absorbChunk_tagged {cs : List Half} (hcs : cs ≠ []) (s : State) :
    (cs.foldl absorbChunk s).macTag = (cs.foldl absorbChunk s).macHash ^^^ s.macGctr ∧ (cs.foldl absorbChunk s).err = false := by
  obtain rfl | ⟨init, last, rfl⟩ := cs.eq_nil_or_concat'
  · exact absurd rfl hcs
  · have hstream : (init.foldl absorbChunk s).macGctr = s.macGctr := foldl_absorbChunk_keeps (fun _ _ => rfl) init s
    rw [List.foldl_append, ← hstream]
    exact ⟨rfl, rfl⟩

/-! ### The fold as a polynomial -/

section Polynomial

variable {s : State}

/-- The class of an integer in the configured field (40_gf_multiplier.md R132). -/
noncomputable abbrev fieldResidue (s : State) (a : Nat) : AdjoinRoot (polyOf (polyStar s.fieldDeg.toNat s.fieldPoly.toNat)) :=
  residue s.fieldDeg.toNat s.fieldPoly.toNat a

theorem fieldResidue_xor (a b : Nat) : fieldResidue s (a ^^^ b) = fieldResidue s a + fieldResidue s b := residue_xor a b

theorem fieldResidue_gfMul (hm : 1 ≤ s.fieldDeg.toNat) (p1 p2 : Nat) :
    fieldResidue s (gfMul p1 p2 s.fieldDeg.toNat s.fieldPoly.toNat) =
      fieldResidue s (p1 % 2 ^ s.fieldDeg.toNat) * fieldResidue s p2 :=
  residue_gfMul hm p1 p2

/-- The residue of the k-th power of H is the k-th power of H's residue. -/
theorem fieldResidue_hashKeyPower (hm : 1 ≤ s.fieldDeg.toNat) (k : Nat) :
    fieldResidue s (hashKeyPower s k) = fieldResidue s s.macH.toNat ^ k := by
  have hlt : ∀ j, hashKeyPower s j < 2 ^ s.fieldDeg.toNat
    | 0 => Nat.one_lt_two_pow (by omega)
    | _ + 1 => gfMul_lt _ _ _ _
  induction k with
  | zero => simp [hashKeyPower]
  | succ k ih => rw [hashKeyPower, fieldResidue_gfMul hm, Nat.mod_eq_of_lt (hlt k), ih, pow_succ]

theorem hashPolynomial_lt (s : State) (cs : List Half) : hashPolynomial s cs < 2 ^ s.fieldDeg.toNat := by
  induction cs with
  | nil => exact Nat.two_pow_pos _
  | cons c cs ih => exact Nat.xor_lt_two_pow (gfMul_lt _ _ _ _) ih

/-- One step of the hash, with no bit of the product cut off (R233). -/
theorem toNat_hashStep (hvalid : s.fieldValid = true) (hfield : FieldContextOk s) (h : GfWord) (c : Half) :
    (hashStep s h c).toNat = gfMul (h.toNat ^^^ c.toNat) s.macH.toNat s.fieldDeg.toNat s.fieldPoly.toNat := by
  rw [hashStep, toNat_gfmProduct hvalid hfield, BitVec.toNat_xor, BitVec.toNat_setWidth_of_le (by decide)]

/-- Horner's scheme: the hash starts with a value below 2^m, which n chunks multiply by H^n, and gains the polynomial of the chunks. -/
theorem foldl_hashStep_horner (hvalid : s.fieldValid = true) (hfield : FieldContextOk s) (cs : List Half) {h : GfWord}
    (hlt : h.toNat < 2 ^ s.fieldDeg.toNat) :
    (cs.foldl (hashStep s) h).toNat < 2 ^ s.fieldDeg.toNat ∧
      fieldResidue s (cs.foldl (hashStep s) h).toNat =
        fieldResidue s h.toNat * fieldResidue s s.macH.toNat ^ cs.length + fieldResidue s (hashPolynomial s cs) := by
  have hm : 1 ≤ s.fieldDeg.toNat := by
    simp only [FieldContextOk, hvalid, if_true] at hfield
    obtain ⟨hm, -⟩ := hfield
    exact hm
  induction cs generalizing h with
  | nil => exact ⟨hlt, by simp [hashPolynomial]⟩
  | cons c cs ih =>
    have hstep := toNat_hashStep hvalid hfield h c
    obtain ⟨hbound, hhash⟩ := ih (h := hashStep s h c) (hstep ▸ gfMul_lt _ _ _ _)
    refine ⟨hbound, hhash.trans ?_⟩
    rw [hstep, fieldResidue_gfMul hm, Nat.xor_mod_two_pow, fieldResidue_xor, Nat.mod_eq_of_lt hlt, hashPolynomial,
      fieldResidue_xor, fieldResidue_gfMul hm, fieldResidue_hashKeyPower hm, List.length_cons]
    ring

end Polynomial

/-- Settles O52: the fold over the chunks has the polynomial's residue, and both are below 2^m. -/
theorem macHashIsThePolynomialAtTheHashKey : Obligations.MacHashIsThePolynomialAtTheHashKey := by
  intro cs s hopen hvalid hfield hzero
  refine ⟨cs.foldl absorbChunk s, absorbChunks_eq_foldl cs hopen hvalid, ?polynomial, fun hcs => foldl_absorbChunk_tagged hcs s,
    foldl_absorbChunk_keeps (fun _ _ => rfl) cs s, foldl_absorbChunk_keeps (fun _ _ => rfl) cs s,
    foldl_absorbChunk_keeps (fun _ _ => rfl) cs s, foldl_absorbChunk_keeps (fun _ _ => rfl) cs s⟩
  case polynomial =>
    obtain ⟨hlt, hhash⟩ := foldl_hashStep_horner hvalid hfield cs (h := 0#16) (Nat.two_pow_pos _)
    rw [macHash_foldl_absorbChunk, hzero]
    exact eq_of_residue_eq hlt (hashPolynomial_lt s cs) (hhash.trans (by simp))

/-! ### Zero chunks and the zero hash key -/

/-- The loop of R131 keeps a multiplicand 0. -/
theorem gfMulLoop_zero_left (n p2 m p : Nat) : gfMulLoop n 0 p2 m p 0 = 0 := by
  induction n generalizing p2 with
  | zero => rfl
  | succ n ih =>
    have hpass : timesX m p 0 = 0 := by simp [timesX]
    simp [gfMulLoop, hpass, ih]

/-- The product of 0 is 0 in any field context, a well-formed one or not. -/
theorem gfMul_zero_left (p2 m p : Nat) : gfMul 0 p2 m p = 0 := by simp [gfMul, gfMulLoop_zero_left]

theorem gfMul_zero_right (p1 m p : Nat) : gfMul p1 0 m p = 0 := by simp [gfMul, bitLen, gfMulLoop]

/-- A zero chunk keeps the hash 0 (R242). -/
theorem hashStep_zero_zero (s : State) : hashStep s 0#16 0#16 = 0#16 := by simp [hashStep_eq, gfMul_zero_left]

theorem hashStep_of_zero_key {s : State} (hkey : s.macH = 0#8) (h : GfWord) (c : Half) : hashStep s h c = 0#16 := by
  simp [hashStep_eq, hkey, gfMul_zero_right]

theorem foldl_hashStep_replicate_zero (s : State) (k : Nat) : (List.replicate k 0#16).foldl (hashStep s) 0#16 = 0#16 := by
  induction k with
  | zero => rfl
  | succ k ih => rw [List.replicate_succ, List.foldl_cons, hashStep_zero_zero, ih]

/-- Settles O53: the zero chunks fold to the hash 0 they start from, and the tag is the hash under the keystream. -/
theorem leadingZeroChunksDoNotShow : Obligations.LeadingZeroChunksDoNotShow := by
  intro k c cs s t u hopen hvalid hzero ht hu
  rw [absorbChunks_eq_foldl _ hopen hvalid] at ht hu
  obtain rfl := Host.Outcome.next.inj ht
  obtain rfl := Host.Outcome.next.inj hu
  have hhash : ((List.replicate k 0#16 ++ c :: cs).foldl absorbChunk s).macHash = ((c :: cs).foldl absorbChunk s).macHash := by
    rw [macHash_foldl_absorbChunk, macHash_foldl_absorbChunk, hzero, List.foldl_append, foldl_hashStep_replicate_zero]
  obtain ⟨htag, -⟩ := foldl_absorbChunk_tagged (cs := List.replicate k 0#16 ++ c :: cs) (by simp) s
  obtain ⟨htag', -⟩ := foldl_absorbChunk_tagged (cs := c :: cs) (by simp) s
  exact ⟨hhash, by rw [htag, htag', hhash]⟩

/-- Settles O54: the step gives 0 at the hash key 0, and the tag is 0 under the keystream. -/
theorem zeroHashKeyGivesTheKeystream : Obligations.ZeroHashKeyGivesTheKeystream := by
  intro s hopen hvalid hkey
  refine ⟨_, exec_macChunk_open hopen hvalid, hashStep_of_zero_key hkey _ _, ?tag⟩
  case tag =>
    rw [hashStep_of_zero_key hkey]
    exact BitVec.zero_xor

end Sys2Proof.MacProofs
end

section
/-! SUPPORT. NOP: its one word and its answer (43_control.md R270). -/

namespace Sys2Proof.ControlProofs

open Sys2Proof Sys2Proof.Machine Sys2Proof.Laws Sys2Proof.StateProofs Sys2Proof.MacProofs

/-- The word of NOP: every field is 0 (30_encoding.md R110, R112). -/
theorem encode_nop : encode .nop = 0x00000000#32 := by decide

/-- NOP has no check, so it always completes (R270). -/
theorem exec_nop (s : State) : exec .nop s = .next (completed s) := by
  obtain ⟨t, h⟩ := exec_answers .nop s
  rw [h, execNop_cases h]

/-- Settles O28: the word is the command's own, and a completion reports success and touches no other field. -/
theorem nopReportsSuccess : Obligations.NopReportsSuccess := by
  refine ⟨fun w => ?word, exec_nop⟩
  case word =>
    rw [← encode_nop]
    exact decode_eq_some_iff_encode rfl

end Sys2Proof.ControlProofs
end

section
/-! SUPPORT. Exceptions: an error of the core is a code in STATUS, raised with no other change, and the machine goes on (60_exceptions.md
R281 to R283, R286). -/

namespace Sys2Proof.ExceptionProofs

open Sys2Proof Sys2Proof.Machine Sys2Proof.Laws Sys2Proof.StateProofs Sys2Proof.CipherProofs

/-! ### Every step answers a next state -/

/-- A completion step answers whether or not it is enabled (70_reset_and_hazards.md R340). -/
theorem completionStep_answers (s : State) : ∃ t, completionStep s = .next t := by
  unfold completionStep
  split
  · exact ⟨s, rfl⟩
  · exact completeAccepted_answers s

/-- Only a completion can raise an error, and the other steps of the environment have none to raise. -/
theorem stepRunning_answers (e : EnvStep) (s : State) : ∃ t, stepRunning e s = .next t := by
  cases e with
  | read off size => exact ⟨_, rfl⟩
  | write off strobes v => exact ⟨_, rfl⟩
  | complete => exact completionStep_answers s
  | clock => exact ⟨_, rfl⟩
  | resetAssert => exact ⟨_, rfl⟩
  | resetRelease => exact ⟨_, rfl⟩

/-- Settles O9: a step under reset or of the bus always answers, and a completion answers as its command does. -/
theorem everyStepAnswersANextState : Obligations.EveryStepAnswersANextState := by
  intro s
  unfold step nextStep
  split
  · exact ite_answers ⟨_, rfl⟩ (completionStep_answers _)
  · exact ite_answers ⟨_, rfl⟩ (stepRunning_answers _ _)

/-! ### Precise errors -/

/-- A command that answers t from s raised an error, which is a code other than OK and changes nothing else, or it completed. -/
inductive Ending (s t : State) : Prop where
  /-- raise E() (R281). -/
  | raised (e : ErrCode) (he : e ≠ .ok) (ht : t = failed e s)
  /-- complete(), after the command's writes gave u (00_scope.md R12). -/
  | finished (u : State) (ht : t = completed u)

/-- Every command ends in one of the two ways, so none changes the state first and raises an error then. -/
theorem exec_ending {i : Instr} {s t : State} (h : exec i s = .next t) : Ending s t := by
  cases i with
  | nop => exact .finished _ (execNop_cases h)
  | gfConfigure m =>
    obtain ⟨-, ht⟩ | ⟨-, ht⟩ := execGfConfigure_cases h
    · exact .finished _ ht
    · exact .raised _ (by decide) ht
  | gfMul =>
    obtain ⟨-, ht⟩ | ⟨-, ht⟩ := execGfMul_cases h
    · exact .raised _ (by decide) ht
    · exact .finished _ ht
  | keyLoadPresent klen rounds =>
    obtain ⟨-, ht⟩ | ⟨-, -, ht⟩ | ⟨-, -, ht⟩ := execKeyLoadPresent_cases h
    · exact .raised _ (by decide) ht
    · exact .raised _ (by decide) ht
    · exact .finished _ ht
  | keyLoadMini rounds =>
    obtain ⟨-, ht⟩ | ⟨-, ht⟩ := execKeyLoadMini_cases h
    · exact .raised _ (by decide) ht
    · exact .finished _ ht
  | encrypt =>
    obtain ⟨-, ht⟩ | ⟨-, ht⟩ := execEncrypt_cases h
    · exact .raised _ (by decide) ht
    · exact .finished _ ht
  | decrypt =>
    obtain ⟨-, ht⟩ | ⟨-, ht⟩ := execDecrypt_cases h
    · exact .raised _ (by decide) ht
    · exact .finished _ ht
  | macInit => exact .finished _ (execMacInit_cases h)
  | macStart =>
    obtain ⟨-, ht⟩ | ⟨-, ht⟩ := execMacStart_cases h
    · exact .raised _ (by decide) ht
    · exact .finished _ ht
  | macChunk =>
    obtain ⟨-, ht⟩ | ⟨-, -, ht⟩ | ⟨-, -, ht⟩ := execMacChunk_cases h
    · exact .raised _ (by decide) ht
    · exact .raised _ (by decide) ht
    · exact .finished _ ht
  | ivCond => exact .finished _ (execIvCond_cases h)

/-- Settles O22: the answer's code is the one that the checks name, and it tells which of the two endings the command had. -/
theorem failingCommandsArePrecise : Obligations.FailingCommandsArePrecise := by
  intro i s
  obtain ⟨t, hexec⟩ := exec_answers i s
  have hcode := errCode_exec hexec
  rw [hexec, ← hcode]
  cases exec_ending hexec with
  | raised e he ht =>
    subst ht
    exact ⟨fun _ => rfl, fun hok => absurd hok he⟩
  | finished u ht =>
    subst ht
    exact ⟨fun hne => absurd rfl hne, fun _ => ⟨_, rfl, rfl, rfl, rfl⟩⟩

end Sys2Proof.ExceptionProofs
end

section
/-! SUPPORT. Reset (70_reset_and_hazards.md R320 to R322): it gives every register its reset value, abandons the command in flight, and
is the only way back to the unconfigured and unkeyed state; and the completion of the command in CUR (R340). -/

namespace Sys2Proof.ResetProofs

open Sys2Proof Sys2Proof.Machine Sys2Proof.Laws Sys2Proof.StateProofs Sys2Proof.MemoryProofs Sys2Proof.EncodingProofs
open Sys2Proof.CipherProofs Sys2Proof.MacProofs

/-! ### The reset state -/

/-- The reset values show in the window and in the context flags, at either level of the reset input (R320). -/
theorem resetRegisters_resetValues (level : Bool) (s : State) : ResetRegisters (resetValues level s) := by
  refine ⟨fun r hinfo hinfo1 hinfo2 => ?_, rfl, rfl, rfl, rfl, rfl, rfl, rfl, rfl, rfl⟩
  cases r with
  | info => exact absurd rfl hinfo
  | info1 => exact absurd rfl hinfo1
  | info2 => exact absurd rfl hinfo2
  | status => exact (by decide : statusWord State.reset = 0#32)
  | ksRounds => exact (by decide : ksRoundsWord State.reset = 0#32)
  | _ => rfl

/-- While reset is asserted the oldest pending step is one in reset, taken from the list (R322). -/
theorem step_eq_stepInReset {s : State} {e : EnvStep} {rest : List EnvStep} (hr : s.rst = true) (henv : s.env = e :: rest) :
    step s = .next (stepInReset e { s with env := rest }) := by
  simp [step, nextStep, henv, envStep, hr]

/-- Settles O5: State.reset and both edges of the reset input are the reset values, at one level or the other. -/
theorem resetGivesTheResetState : Obligations.ResetGivesTheResetState := by
  refine ⟨resetRegisters_resetValues false State.reset, fun s rest hreset => ?_⟩
  obtain henv | ⟨henv, hr⟩ := hreset
  · exact ⟨_, step_resetAssert henv, rfl, resetRegisters_resetValues true _⟩
  · exact ⟨_, step_eq_stepInReset hr henv, rfl, resetRegisters_resetValues false _⟩

/-- Settles O6: asserting reset leaves the reset values with reset asserted, and there a completion and the accesses are lost. -/
theorem resetAbandonsTheCommandInFlight : Obligations.ResetAbandonsTheCommandInFlight := by
  refine ⟨fun s rest _ _ henv => ?abandoned, fun s off size rest hr henv => ?read, fun s off strobes v rest hr henv => ?write⟩
  case abandoned =>
    exact ⟨_, step_resetAssert henv, rfl, rfl, resetRegisters_resetValues true _, step_eq_stepInReset (e := .complete) rfl rfl⟩
  case read => exact step_eq_stepInReset hr henv
  case write => exact ⟨Config.lostWriteStatus s.lostWrites, step_eq_stepInReset hr henv⟩

/-! ### What only a reset clears -/

/-- What is configured or keyed in s is so in t. -/
structure KeepsConfigured (s t : State) : Prop where
  fieldValid : s.fieldValid = true → t.fieldValid = true
  keyLoaded : s.ksCR ≠ 0#8 → t.ksCR ≠ 0#8
  macKeyed : s.ksMacR ≠ 0#8 → t.ksMacR ≠ 0#8

theorem KeepsConfigured.of_eq {s t : State} (hfield : t.fieldValid = s.fieldValid) (hkey : t.ksCR = s.ksCR)
    (hmac : t.ksMacR = s.ksMacR) : KeepsConfigured s t :=
  ⟨hfield.trans, fun h => hkey ▸ h, fun h => hmac ▸ h⟩

/-- Nothing of this lies in the pending steps. -/
theorem KeepsConfigured.of_setEnv {s t : State} {env : List EnvStep} (h : KeepsConfigured { s with env := env } t) :
    KeepsConfigured s t :=
  ⟨h.fieldValid, h.keyLoaded, h.macKeyed⟩

/-- A key load installs a schedule of at least one key, and KS_C_R can count its keys (41_cipher.md R181). -/
theorem installSchedule_ksCR_ne_zero (cfg : Config) {v : Variant} (key : KeyWord) {rounds default : Nat} (s : State)
    (hv : v ≠ .noKey) (hr : rounds ≤ 32) (hdefault : 0 < default ∧ default ≤ 32) :
    (installSchedule v (scheduleC cfg v key (roundCount rounds default)) s).ksCR ≠ 0#8 := by
  have hpos := roundCount_pos rounds default hdefault.1
  have hmax : roundCount rounds default ≤ 32 := roundCount_le rounds default hr hdefault.2
  rw [installSchedule_ksCR, scheduleC_length cfg v key _ hv]
  bv_omega

/-- GF_CONFIGURE alone writes FIELD_VALID, and it sets it (40_gf_multiplier.md R140). -/
theorem exec_fieldValid {i : Instr} {s t : State} (h : exec i s = .next t) (hvalid : s.fieldValid = true) : t.fieldValid = true := by
  by_cases hrow : .field ∈ writesOf i
  · cases i with
    | gfConfigure m =>
      obtain ⟨-, rfl⟩ | ⟨-, rfl⟩ := execGfConfigure_cases h
      · rfl
      · exact hvalid
    | _ => simp [writesOf] at hrow
  · have hsame : fieldContext t = fieldContext s := exec_groupSame h hrow
    exact (congrArg Prod.fst hsame).trans hvalid

/-- The key loads alone write KS_C_R, and they leave it above 0 (41_cipher.md R190, R191). -/
theorem exec_keyLoaded {i : Instr} {s t : State} (h : exec i s = .next t) (hloaded : s.ksCR ≠ 0#8) : t.ksCR ≠ 0#8 := by
  by_cases hrow : .schedule ∈ writesOf i
  · cases i with
    | keyLoadPresent klen rounds =>
      obtain ⟨-, rfl⟩ | ⟨-, -, rfl⟩ | ⟨-, hr, rfl⟩ := execKeyLoadPresent_cases h
      · exact hloaded
      · exact hloaded
      · exact installSchedule_ksCR_ne_zero _ _ s (presentVariant_ne_noKey klen) hr (by decide)
    | keyLoadMini rounds =>
      obtain ⟨-, rfl⟩ | ⟨hr, rfl⟩ := execKeyLoadMini_cases h
      · exact hloaded
      · exact installSchedule_ksCR_ne_zero _ _ s (by decide) hr (by decide)
    | _ => simp [writesOf] at hrow
  · have hsame : cipherContext t = cipherContext s := exec_groupSame h hrow
    have hcount : t.ksCR = s.ksCR := congrArg (fun c => c.2.1) hsame
    exact hcount ▸ hloaded

/-- MAC_INIT alone writes KS_MAC_R, and it writes MINI_DEFAULT_ROUNDS (42_mac.md R240). -/
theorem exec_macKeyed {i : Instr} {s t : State} (h : exec i s = .next t) (hkeyed : s.ksMacR ≠ 0#8) : t.ksMacR ≠ 0#8 := by
  by_cases hrow : .macKey ∈ writesOf i
  · cases i with
    | macInit =>
      obtain rfl := execMacInit_cases h
      exact (by decide : BitVec.ofNat 8 Config.miniDefaultRounds ≠ 0#8)
    | _ => simp [writesOf] at hrow
  · obtain ⟨-, hcount, -⟩ := exec_groupSame (g := .macKey) h hrow
    exact hcount ▸ hkeyed

theorem completeAccepted_keepsConfigured {s t : State} (h : completeAccepted s = .next t) : KeepsConfigured s t := by
  obtain ⟨i, -, hexec⟩ | ⟨-, rfl⟩ := completeAccepted_cases h
  · exact ⟨exec_fieldValid hexec, exec_keyLoaded hexec, exec_macKeyed hexec⟩
  · exact .of_eq rfl rfl rfl

/-- The host writes neither FIELD_VALID nor a count of round keys (20_memory.md R90). -/
theorem hostWrite_keepsConfigured (off : Offset) (strobes : Strobes) (v : Word) (s : State) :
    KeepsConfigured s (hostWrite off strobes v s) := by
  unfold hostWrite
  split
  · exact .of_eq (windowWrite_fieldValid off v s) (windowWrite_ksCR off v s) (windowWrite_ksMacR off v s)
  · exact .of_eq rfl rfl rfl

theorem stepInReset_keepsConfigured (e : EnvStep) (s : State) :
    KeepsConfigured s (stepInReset e s) ∨ e = .resetAssert ∨ e = .resetRelease := by
  cases e with
  | resetAssert => exact .inr (.inl rfl)
  | resetRelease => exact .inr (.inr rfl)
  | _ => exact .inl (.of_eq rfl rfl rfl)

/-- The step is a reset: the reset input is asserted, or released while it was asserted (R320). -/
def IsReset (s : State) : Prop := ∃ rest, s.env = .resetAssert :: rest ∨ (s.env = .resetRelease :: rest ∧ s.rst = true)

/-- A step keeps what is configured and keyed, unless it is a reset. -/
theorem step_keepsConfigured {s t : State} (h : step s = .next t) : KeepsConfigured s t ∨ IsReset s := by
  cases step_case h with
  | hold _ _ ht => exact ht ▸ .inl (.of_eq rfl rfl rfl)
  | quietCompletion _ _ _ ht => exact .inl (completeAccepted_keepsConfigured ht)
  | inReset e rest henv hr ht =>
    obtain hkeeps | rfl | rfl := stepInReset_keepsConfigured e { s with env := rest }
    · exact ht ▸ .inl hkeeps.of_setEnv
    · exact .inr ⟨rest, .inl henv⟩
    · exact .inr ⟨rest, .inr ⟨henv, hr⟩⟩
  | read off size rest _ _ ht => exact ht ▸ .inl (.of_eq rfl rfl rfl)
  | write off strobes v rest _ _ ht => exact ht ▸ .inl (hostWrite_keepsConfigured off strobes v _).of_setEnv
  | completionIdle rest _ _ _ ht => exact ht ▸ .inl (.of_eq rfl rfl rfl)
  | completion rest _ _ _ ht => exact .inl (completeAccepted_keepsConfigured ht).of_setEnv
  | clock rest _ _ ht =>
    obtain ⟨work, hclock⟩ := clockCycle_eq Config.machine { s with env := rest }
    rw [ht, hclock]
    exact .inl (.of_eq rfl rfl rfl)
  | resetAssert rest henv _ _ => exact .inr ⟨rest, .inl henv⟩
  | releaseIgnored rest _ _ ht => exact ht ▸ .inl (.of_eq rfl rfl rfl)

theorem keyValid_eq_false_iff (s : State) : keyValid s = false ↔ s.ksCR = 0#8 := by simp [keyValid]

theorem keyValid_eq_true_iff (s : State) : keyValid s = true ↔ s.ksCR ≠ 0#8 := by simp [keyValid]

/-- Settles O7: a step that is no reset keeps each of the three flags. -/
theorem onlyResetUnconfigures : Obligations.OnlyResetUnconfigures := by
  intro s t h hcleared
  refine (step_keepsConfigured h).resolve_left fun hkeeps => ?_
  simp only [keyValid_eq_true_iff, keyValid_eq_false_iff, macKeyed_eq_true_iff, macKeyed_eq_false_iff] at hcleared
  obtain ⟨hset, hclear⟩ | ⟨hset, hclear⟩ | ⟨hset, hclear⟩ := hcleared
  · exact absurd ((hkeeps.fieldValid hset).symm.trans hclear) (by decide)
  · exact hkeeps.keyLoaded hset hclear
  · exact hkeeps.macKeyed hset hclear

/-! ### The completion of the command in CUR -/

theorem completeAccepted_of_decoded {s : State} {i : Instr} (hdec : decode s.cur.word = some i) : completeAccepted s = exec i s := by
  simp only [completeAccepted, hdec]

/-- Settles O8: pending, quiet or placed, a completion answers what the word in CUR decodes to. -/
theorem stepRunsTheDecodedCommand : Obligations.StepRunsTheDecodedCommand := by
  refine ⟨fun s rest i hr hb hdec henv => ?pending, fun s i hr hb hdec henv => ?quiet, fun s w i hdec => ?placed⟩
  case pending => exact (step_eq_completeAccepted_of_pending hr hb henv).trans (completeAccepted_of_decoded hdec)
  case quiet => exact (step_eq_completeAccepted_of_quiet hr hb henv).trans (completeAccepted_of_decoded hdec)
  case placed =>
    have hstep := step_eq_completeAccepted_of_pending (s := s.withFetchWord 32 w) rfl rfl rfl
    exact hstep.trans (completeAccepted_of_decoded hdec)

end Sys2Proof.ResetProofs
end

section
/-! SUPPORT. The reference latencies (70_reset_and_hazards.md R345): the reference datapath takes as many cycles, no more and no fewer. -/

namespace Sys2Proof.TimingProofs

open Sys2Proof Sys2Proof.Machine Sys2Proof.CipherProofs

variable {cfg : Config} {i : Instr} {s : State} {w : Working}

/-! ### The checks of a command that raises no error -/

/-- No error is named only where no check fails, when every check has an error to name (60_exceptions.md R282). -/
theorem eq_false_of_firstError_eq_ok {checks : List (Bool × ErrCode)} (hcodes : ∀ c ∈ checks, c.2 ≠ .ok)
    (hok : firstError checks = .ok) : ∀ c ∈ checks, c.1 = false := by
  induction checks with
  | nil => simp
  | cons c checks ih =>
    obtain ⟨failed, e⟩ := c
    obtain ⟨hcode, hrest⟩ := List.forall_mem_cons.mp hcodes
    cases failed with
    | true => exact absurd hok hcode
    | false => exact List.forall_mem_cons.mpr ⟨rfl, ih hrest hok⟩

theorem commandErrors_ne_ok (i : Instr) (s : State) : ∀ c ∈ commandErrors i s, c.2 ≠ .ok := by
  cases i <;> simp [commandErrors]

/-- A command in flight that raises no error fails none of its checks. -/
theorem passes_of_inFlight (hf : InFlight i s) {failed : Bool} {e : ErrCode} (hmem : (failed, e) ∈ commandErrors i s) : failed = false :=
  eq_false_of_firstError_eq_ok (commandErrors_ne_ok i s) hf.noError _ hmem

theorem fieldValid_of_inFlight (hi : i = .gfMul ∨ i = .macChunk) (hf : InFlight i s) : s.fieldValid = true := by
  have hpass : (!s.fieldValid) = false :=
    passes_of_inFlight (e := .fieldNotConfigured) hf (by obtain rfl | rfl := hi <;> simp [commandErrors])
  simpa using hpass

theorem rounds_le_of_inFlight {rounds : Nat} (hi : (∃ klen, i = .keyLoadPresent klen rounds) ∨ i = .keyLoadMini rounds)
    (hf : InFlight i s) : rounds ≤ 32 := by
  have hpass : decide (32 < rounds) = false :=
    passes_of_inFlight (e := .invalidRounds) hf (by obtain ⟨klen, rfl⟩ | rfl := hi <;> simp [commandErrors])
  simpa using hpass

/-! ### The latency of the command in flight -/

/-- What the units have staged when they are done is not asked here. -/
theorem reaches_done {n : Nat} {result : Working → Prop} (h : Reaches cfg s n w fun w' => w'.fsm = .done ∧ result w') :
    Reaches cfg s n w (·.fsm = .done) :=
  ⟨h.after.1, h.notBefore⟩

/-- A command that raises no error is done after its latency and not before. -/
theorem commandLatency_reaches (hf : InFlight i s) (hinv : CoreInv s) (hready : w.fsm = .ready) :
    Reaches cfg s (commandLatency cfg i s) w (·.fsm = .done) := by
  have hrunning : w.fsm ≠ .done := by rw [hready]; decide
  cases i with
  | nop => exact hf.lastCycle hrunning rfl
  | gfConfigure m => exact hf.lastCycle hrunning rfl
  | ivCond => exact hf.lastCycle hrunning rfl
  | gfMul =>
    have hvalid := fieldValid_of_inFlight (.inl rfl) hf
    exact reaches_done (mulCycle_reaches hf (fun _ => rfl) hready hvalid hinv.fieldContext)
  | macChunk =>
    have hvalid := fieldValid_of_inFlight (.inr rfl) hf
    exact reaches_done (mulCycle_reaches hf (fun _ => rfl) hready hvalid hinv.fieldContext)
  | keyLoadPresent klen rounds =>
    exact reaches_done (keyLoadPresent_reaches hf (rounds_le_of_inFlight (.inl ⟨klen, rfl⟩) hf) hready)
  | keyLoadMini rounds =>
    exact reaches_done (keyLoadMini_reaches hf (rounds_le_of_inFlight (.inr rfl) hf) hready)
  | encrypt => exact reaches_done (encrypt_reaches hf hinv hready)
  | decrypt => exact reaches_done (decrypt_reaches hf hinv hready)
  | macInit => exact reaches_done (macInit_reaches hf hready)
  | macStart => exact reaches_done (macStart_reaches hf hready)

/-- A cycle that ends the command leaves no earlier one to end it. -/
theorem reaches_one_of_oneCycle (hrun : w.fsm ≠ .done) (hcycle : workCycle cfg s w = oneCycle w) :
    Reaches cfg s 1 w (·.fsm = .done) where
  after := congrArg Working.fsm hcycle
  notBefore k hk := by
    obtain rfl : k = 0 := Nat.lt_one_iff.mp hk
    exact hrun

/-- The command in flight is done after its reference latency and not before, an error and an illegal word after one cycle. -/
theorem referenceLatency_reaches (hinv : CoreInv s) (hready : w.fsm = .ready) :
    Reaches cfg s (referenceLatency cfg s) w (·.fsm = .done) := by
  have hrunning : w.fsm ≠ .done := by rw [hready]; decide
  cases hdec : decode s.cur.word with
  | none =>
    have hlatency : referenceLatency cfg s = 1 := by simp only [referenceLatency, hdec]
    rw [hlatency]
    exact reaches_one_of_oneCycle hrunning (by simp only [workCycle, if_neg hrunning, hdec])
  | some i =>
    by_cases hok : errorOf i s = .ok
    · have hf : InFlight i s := ⟨hdec, hok⟩
      rw [hf.referenceLatency]
      exact commandLatency_reaches hf hinv hready
    · have hlatency : referenceLatency cfg s = 1 := by simp only [referenceLatency, hdec, if_neg hok]
      rw [hlatency]
      exact reaches_one_of_oneCycle hrunning (by simp only [workCycle, if_neg hrunning, hdec, if_neg hok])

/-- Settles O55: the units of each command reach their result at its reference latency, in the machine's configuration. -/
theorem datapathTakesTheReferenceLatency : Obligations.DatapathTakesTheReferenceLatency := fun _ hinv hready =>
  have hreaches := referenceLatency_reaches hinv hready
  ⟨hreaches.after, hreaches.notBefore⟩

end Sys2Proof.TimingProofs
end
